-- ==== Sys2Proof/Word.lean ====
section
/-! DEFINITION. The two word widths of the core: the byte of the bus and of every general register (spec/00_scope.md R6) and the 16-bit word of PC, SP, addresses and register pairs. -/

namespace Sys2Proof

/-- The addressable unit and the general register width, 8 bits (R6, R20, R71). -/
abbrev Byte := BitVec 8

/-- Program counter, stack pointer, addresses and register pairs, 16 bits (R6, R21, R25, R26). -/
abbrev Word := BitVec 16

end Sys2Proof
end

