-- ==== Sys2Proof/Config.lean ====
section
/-! DEFINITION. The parameters of spec/00_scope.md R7 and the launch constants of R8, as plain data. The spec leaves each open, so a state carries them (State.cfg) and a claim over all states holds for every value of them. MAPPER_KIND stands in the mapper itself (Machine/State.lean), CART_ROM, BOOT_ROM and CART_RAM_INIT in the memories. The one free value is `Config.entryKeepsImePending`, a point on which two rules of the spec differ; spec/70_reset_and_hazards.md R542 leaves nothing else undefined. -/

namespace Sys2Proof

/-- `TIMER_MODE` (R7, R502): whether TIMA counts. -/
inductive TimerMode
  | reference
  | full
deriving DecidableEq, Repr

/-- `STOP_MODE` (R7, R372): the meaning of opcode 0x10. -/
inductive StopMode
  | refuse
  | nop2
  | nop1
deriving DecidableEq, Repr

/-- `OBJ_DRAW_ORDER` (R7, R462): the order in which selected sprites are painted. -/
inductive ObjDrawOrder
  | ascending
  | descending
deriving DecidableEq, Repr

/-- `MBC_RAMEN_POLICY` (R7, R131): the effect of a RAM-enable write. -/
inductive RamEnPolicy
  | setClear
  | toggle
deriving DecidableEq, Repr

/-- `CART_RAM_SIZE` (R8, R122): none, 2 KB, 8 KB or 32 KB. -/
inductive CartRamSize
  | none
  | kb2
  | kb8
  | kb32
deriving DecidableEq, Repr

/-- `SHADE_COLOR` (R7, R458): the packed 32-bit colour of each 2-bit shade. -/
structure ShadeColors where
  shade0 : BitVec 32
  shade1 : BitVec 32
  shade2 : BitVec 32
  shade3 : BitVec 32
deriving DecidableEq, Repr

/-- The parameters (R7) and launch constants (R8) that no step changes. -/
structure Config where
  /-- `ROM_BANK_COUNT = length(CART_ROM) / 0x4000` (R8). -/
  romBankCount : Nat
  cartRamSize : CartRamSize
  /-- `INIT_RAM` (R7): read again only by the reset input (R530). -/
  initRam : Byte
  timerMode : TimerMode
  stopMode : StopMode
  /-- `SPRITE_PENALTY_DOTS` (R7, R453), 0 to 20. -/
  spritePenaltyDots : Fin 21
  objDrawOrder : ObjDrawOrder
  shadeColor : ShadeColors
  mbcRamenPolicy : RamEnPolicy
deriving DecidableEq, Repr

/-- The default colours of R7. -/
def ShadeColors.default : ShadeColors :=
  { shade0 := 0xFFFFFFFF, shade1 := 0xFFAAAAAA, shade2 := 0xFF555555, shade3 := 0xFF000000 }

/-- The configuration of `Machine.State.reset`: the defaults of R7 with a 32 KB cartridge without RAM.
DESIGN CHOICE (safe for claims over all states): `stopMode` is `nop1`, not the listed default `refuse`, log entry 4;
the others are R7's defaults, log entry 5. -/
def Config.atReset : Config :=
  { romBankCount := 2
    cartRamSize := .none
    initRam := 0x00
    timerMode := .reference
    stopMode := .nop1
    spritePenaltyDots := 6
    objDrawOrder := .ascending
    shadeColor := ShadeColors.default
    mbcRamenPolicy := .setClear }

/-- FREE VALUE: whether an interrupt entry keeps a set `ime_pending`. It is set at an entry only where EI ran with IME
already 1 in the same step. spec/60_exceptions.md R412 says the entry does not change it; spec/46_system.md R373 says that
such an EI changes nothing observable, and R414 that a handler which executes no EI is not interrupted, for which it must be
cleared. No ruling of the spec settles it and the model picks neither (log entry 22). -/
opaque Config.entryKeepsImePending : Bool

end Sys2Proof
end

