-- ==== Sys2Proof/Machine/State.lean ====
section
/-! DEFINITION. The state of the core, everything spec/10_state.md names (R20 to R49), as plain data; its faults and refusals; the state after reset (R51). -/

namespace Sys2Proof.Machine

/-- A byte memory: address and byte pairs, addresses strictly rising, no byte equal to what an unlisted address reads as
(`Memory.unlisted` and `Memory.wf` in Machine/Memory.lean). -/
abbrev Memory := List Host.Cell

/-- The framebuffer as 2-bit shades at index `y * 160 + x`, in the same canonical form (R45, R458, D30; log entry 8). -/
abbrev Framebuffer := List (Nat × BitVec 2)

/-- The register file (R20). The pairs AF, BC, DE, HL are computed (R21). -/
structure Regs where
  a : Byte
  f : Byte
  b : Byte
  c : Byte
  d : Byte
  e : Byte
  h : Byte
  l : Byte
deriving DecidableEq, Repr

/-- The record taken by the fatal fault (R31, R404). -/
structure Snapshot where
  regs : Regs
  pc : Word
  sp : Word
  cycTotal : BitVec 64
deriving DecidableEq, Repr

/-- The buffer and the mutable bank index of a banked memory (R47, R90); its constants are a `BankGeom`. -/
structure Bank where
  buf : Memory
  current : Nat
deriving DecidableEq, Repr

/-- The registers of MBC1 (R130, R48). -/
structure Mbc1 where
  ramEnabled : Bool
  romBank : BitVec 5
  secBank : BitVec 2
  bankingMode : Bool
deriving DecidableEq, Repr

/-- The registers of MBC3 (R140, R48). -/
structure Mbc3 where
  ramEnabled : Bool
  romBank : BitVec 7
  secBank : BitVec 2
deriving DecidableEq, Repr

/-- `MAPPER_KIND` with the registers that kind has (R48, R120, R127, R130, R140). -/
inductive Mapper
  | noMapper
  | mbc1 (r : Mbc1)
  | mbc3 (r : Mbc3)
deriving DecidableEq, Repr

/-- The PPU mode (R45). -/
inductive PpuMode
  | oamScan
  | pixelPut
  | hBlank
  | vBlank
deriving DecidableEq, Repr

/-- The PPU's registers (R39 to R42) and internal state (R45). `statEn` holds lyc_int, oam_int, vblank_int, hblank_int
in bits 3 to 0 (R40: STAT bits 6 to 3). -/
structure Ppu where
  lcdc : Byte
  statEn : BitVec 4
  scy : Byte
  scx : Byte
  ly : Byte
  lyc : Byte
  bgp : Byte
  obp0 : Byte
  obp1 : Byte
  wy : Byte
  wx : Byte
  mode : PpuMode
  dot : Nat
  spriteExtra : Nat
  lineSprites : List Nat
  offBudget : Int
  fb : Framebuffer
deriving DecidableEq, Repr

/-- The DIV counter and the TIMA, TMA, TAC registers (R35, R36). -/
structure Timer where
  div : BitVec 16
  tima : Byte
  tma : Byte
  tac : Byte
deriving DecidableEq, Repr

/-- The OAM DMA engine (R43). -/
structure Dma where
  reg : Byte
  active : Bool
  index : Nat
deriving DecidableEq, Repr

/-- What the host drives in one step: `JoyEdge` and `JoyHeld` (R14, R520, R521). -/
structure JoyInput where
  edge : Bool
  held : Byte
deriving DecidableEq, Repr

/-- The whole state of the core. -/
structure State where
  /-- A, F, B, C, D, E, H, L (R20). -/
  regs : Regs
  /-- R25. -/
  pc : Word
  /-- R26. -/
  sp : Word
  /-- R28. -/
  ime : Bool
  /-- R29. -/
  imePending : Bool
  /-- R30. -/
  halted : Bool
  /-- R31; also the output `fatal`. -/
  fault : Bool
  /-- R31. -/
  snapshot : Snapshot
  /-- R32. -/
  stepCycles : Nat
  /-- R32. -/
  cycTotal : BitVec 64
  /-- IE (R38). -/
  ie : BitVec 5
  /-- IF (R37). -/
  ifReg : BitVec 5
  /-- CART_ROM as a banked memory (R46, R90). -/
  rom : Bank
  /-- BOOT_ROM (R46). -/
  bootRom : Memory
  /-- R44. -/
  bootEnabled : Bool
  /-- R46. -/
  vram : Bank
  /-- R46, R122; meaningful when `cfg.cartRamSize` is not `none`. -/
  cartRam : Bank
  /-- R46. -/
  wram : Bank
  /-- R46. -/
  oam : Memory
  /-- R46. -/
  hram : Memory
  /-- R48. -/
  mapper : Mapper
  /-- `joy_select` of P1 (R34). -/
  joySelect : BitVec 2
  /-- R35, R36. -/
  timer : Timer
  /-- R39 to R42, R45. -/
  ppu : Ppu
  /-- R43. -/
  dma : Dma
  /-- The output pulse of the last step (R14, R464). -/
  frameValid : Bool
  /-- The output pulse of the last step (R14, R449). -/
  blankFrame : Bool
  /-- The MODEL's own field: the inputs of the coming steps, this step's first (R14, R520; log entry 6). -/
  joyInputs : List JoyInput
  /-- R7, R8. -/
  cfg : Config
deriving DecidableEq, Repr

/-- Why the core stops. -/
inductive Fault
  /-- Raised by `step` when `fault = 1`: after an undefined opcode the core has no step until reset (R404). It carries
  the snapshot the spec surfaces. Safe: the spec's core makes no step either. -/
  | illegalOpcode (snap : Snapshot)
deriving DecidableEq, Repr

/-- Why the model gives no next state. -/
inductive Refusal
  /-- Raised by `exec` for an instruction whose meaning is not written. Safe. -/
  | notModelled (mnemonic : String)
  /-- Raised by the meaning of STOP under `STOP_MODE = refuse` (R372, R542). Safe. -/
  | stopRefused
  /-- Raised by `launch`: BOOT_ROM is not exactly 256 bytes (R7). Safe. -/
  | launchBootRomSize
  /-- Raised by `launch`: the length of CART_ROM (R7, R122). Safe. -/
  | launchRomSize
  /-- Raised by `launch`: a header code at 0x147 outside the table of R121. Safe. -/
  | launchMapperCode (code : Byte)
  /-- Raised by `launch`: a header code at 0x149 outside the table of R122. Safe. -/
  | launchRamCode (code : Byte)
  /-- Raised by `launch`: CART_RAM_INIT is not as long as the declared RAM (R7). Safe. -/
  | launchCartRamInitSize
deriving DecidableEq, Repr

/-- The PPU after reset (R51). -/
def Ppu.reset : Ppu :=
  { lcdc := 0, statEn := 0, scy := 0, scx := 0, ly := 0, lyc := 0, bgp := 0, obp0 := 0, obp1 := 0, wy := 0, wx := 0,
    mode := .hBlank, dot := 0, spriteExtra := 0, lineSprites := [], offBudget := 70224, fb := [] }

/-- The state after reset (R51, R531) under `Config.atReset`: the boot overlay on, PC 0, everything else 0.
BOOT_ROM and CART_ROM are parameters and list nothing here (DESIGN CHOICE, log entry 3), so every byte of them reads 0x00;
`snapshot` is unspecified (R31) and set to 0 (DESIGN CHOICE, log entry 1); RAM reads INIT_RAM = 0x00 (log entry 2). -/
def State.reset : State :=
  { regs := { a := 0, f := 0, b := 0, c := 0, d := 0, e := 0, h := 0, l := 0 }
    pc := 0
    sp := 0
    ime := false
    imePending := false
    halted := false
    fault := false
    snapshot :=
      { regs := { a := 0, f := 0, b := 0, c := 0, d := 0, e := 0, h := 0, l := 0 }, pc := 0, sp := 0, cycTotal := 0 }
    stepCycles := 0
    cycTotal := 0
    ie := 0
    ifReg := 0
    rom := { buf := [], current := 1 }
    bootRom := []
    bootEnabled := true
    vram := { buf := [], current := 0 }
    cartRam := { buf := [], current := 0 }
    wram := { buf := [], current := 0 }
    oam := []
    hram := []
    mapper := .noMapper
    joySelect := 0b11
    timer := { div := 0, tima := 0, tma := 0, tac := 0 }
    ppu := Ppu.reset
    dma := { reg := 0, active := false, index := 0 }
    frameValid := false
    blankFrame := false
    joyInputs := []
    cfg := Config.atReset }

end Sys2Proof.Machine
end

