-- ==== Sys2Proof/Machine/Memory.lean ====
section
/-! DEFINITION. Memories in canonical form: a list of address and value pairs, addresses strictly rising, no value equal to what an unlisted address reads as. The same operations serve the byte memories and the framebuffer. -/

namespace Sys2Proof.Machine

/-- The value at an address; `d` where the list has no entry. -/
def Sparse.read {α : Type} (d : α) : List (Nat × α) → Nat → α
  | [], _ => d
  | (k, v) :: m, a => if a < k then d else if a = k then v else Sparse.read d m a

/-- The list with the value at an address replaced; writing `d` removes the entry. -/
def Sparse.write {α : Type} [DecidableEq α] (d : α) : List (Nat × α) → Nat → α → List (Nat × α)
  | [], a, v => if v = d then [] else [(a, v)]
  | (k, w) :: m, a, v =>
    if a < k then (if v = d then (k, w) :: m else (a, v) :: (k, w) :: m)
    else if a = k then (if v = d then m else (a, v) :: m)
    else (k, w) :: Sparse.write d m a v

/-- The canonical form: addresses strictly rising, no entry equal to `d`. -/
abbrev Sparse.wf {α : Type} (d : α) (m : List (Nat × α)) : Prop :=
  (m.map Prod.fst).Pairwise (· < ·) ∧ ∀ c ∈ m, c.2 ≠ d

/-- The list that holds the given values at the addresses from `a` on. -/
def Sparse.ofValues {α : Type} [DecidableEq α] (d : α) : Nat → List α → List (Nat × α)
  | _, [] => []
  | a, v :: vs => if v = d then Sparse.ofValues d (a + 1) vs else (a, v) :: Sparse.ofValues d (a + 1) vs

/-- What a byte that no entry lists reads as: 0x00, the default of `INIT_RAM` and of `CART_RAM_INIT`
(spec/00_scope.md R7, spec/10_state.md R46). Another `INIT_RAM` is a memory that lists every byte (log entry 2). -/
def Memory.unlisted : Byte := 0x00

/-- The byte at an offset. -/
def Memory.read (m : Memory) (a : Nat) : Byte := Sparse.read Memory.unlisted m a

/-- The memory with one byte replaced. -/
def Memory.write (m : Memory) (a : Nat) (v : Byte) : Memory := Sparse.write Memory.unlisted m a v

/-- The canonical form of a byte memory. -/
abbrev Memory.wf (m : Memory) : Prop := Sparse.wf Memory.unlisted m

/-- A memory image from its bytes, the first at offset 0. -/
def Memory.ofBytes (bs : List Byte) : Memory := Sparse.ofValues Memory.unlisted 0 bs

/-- A memory of `n` equal bytes. -/
def Memory.filled (n : Nat) (v : Byte) : Memory := Memory.ofBytes (List.replicate n v)

/-- The shade of a pixel that no entry lists: shade 0, whose colour every pixel has after reset (R45, R51). -/
def Framebuffer.unlisted : BitVec 2 := 0

/-- The shade at an index. -/
def Framebuffer.read (m : Framebuffer) (i : Nat) : BitVec 2 := Sparse.read Framebuffer.unlisted m i

/-- The framebuffer with one pixel replaced. -/
def Framebuffer.write (m : Framebuffer) (i : Nat) (v : BitVec 2) : Framebuffer := Sparse.write Framebuffer.unlisted m i v

/-- The canonical form of the framebuffer. -/
abbrev Framebuffer.wf (m : Framebuffer) : Prop := Sparse.wf Framebuffer.unlisted m

end Sys2Proof.Machine
end

