-- ==== Sys2Proof/Machine/Banked.lean ====
section
/-! DEFINITION. The banked memory arbiter (spec/20_memory.md R90 to R94) and its four instances (R46, R90, spec/21_cartridge_mapper.md R122). -/

namespace Sys2Proof.Machine

/-- The byte of every read that no storage answers (R70, R83). -/
def undefinedRead : Byte := 0xFF

/-- The constants of a banked memory (R90). -/
structure BankGeom where
  count : Nat
  size : Nat
  readOnly : Bool
deriving DecidableEq, Repr

/-- The number of RAM banks of a declared size (R122). -/
def CartRamSize.bankCount : CartRamSize → Nat
  | .none => 0
  | .kb2 => 1
  | .kb8 => 1
  | .kb32 => 4

/-- The size of one RAM bank (R122). -/
def CartRamSize.bankSize : CartRamSize → Nat
  | .none => 0
  | .kb2 => 0x800
  | .kb8 => 0x2000
  | .kb32 => 0x2000

/-- The ROM instance (R90). -/
def romGeom (cfg : Config) : BankGeom := { count := cfg.romBankCount, size := 0x4000, readOnly := true }

/-- The cartridge RAM instance (R122). -/
def cartRamGeom (cfg : Config) : BankGeom :=
  { count := CartRamSize.bankCount cfg.cartRamSize, size := CartRamSize.bankSize cfg.cartRamSize, readOnly := false }

/-- The VRAM instance, one bank of 0x2000 (R46, R90). -/
def vramGeom : BankGeom := { count := 1, size := 0x2000, readOnly := false }

/-- The work RAM instance, one bank of 0x2000 (R46, R90). -/
def wramGeom : BankGeom := { count := 1, size := 0x2000, readOnly := false }

/-- `SwitchBank(M, n)` (R91): the index is reduced modulo the bank count. -/
def switchBank (g : BankGeom) (n : Nat) (b : Bank) : Bank := { b with current := n % g.count }

/-- `BankRead(M, offset)` (R92). -/
def bankRead (g : BankGeom) (offset : Nat) (b : Bank) : Byte :=
  if offset < g.size then Memory.read b.buf (b.current * g.size + offset) else undefinedRead

/-- `BankWrite(M, offset, v)` (R93). -/
def bankWrite (g : BankGeom) (offset : Nat) (v : Byte) (b : Bank) : Bank :=
  if g.readOnly then b
  else if offset < g.size then { b with buf := Memory.write b.buf (b.current * g.size + offset) v }
  else b

/-- `BankReadAt(M, n, offset)` (R94): another bank's byte, the current bank untouched. -/
def bankReadAt (g : BankGeom) (n offset : Nat) (b : Bank) : Byte :=
  if offset < g.size then Memory.read b.buf (n % g.count * g.size + offset) else undefinedRead

end Sys2Proof.Machine
end

