-- ==== Sys2Proof/Machine/Mapper.lean ====
section
/-! DEFINITION. The cartridge mapper (spec/21_cartridge_mapper.md R120 to R152): NoMapper, MBC1, MBC3 and the cartridge RAM gate. -/

namespace Sys2Proof.Machine

/-- A RAM-enable write (R131, R141): under `set_clear` a low nibble 0xA enables and any other disables; under `toggle`
a low nibble 0xA inverts the latch and any other does nothing. -/
def ramEnableWrite (p : RamEnPolicy) (old : Bool) (v : Byte) : Bool :=
  match p with
  | .setClear => v.extractLsb' 0 4 == 0xA#4
  | .toggle => if v.extractLsb' 0 4 = 0xA#4 then !old else old

/-- `UpdateBanks()` of MBC1 (R136). -/
def mbc1UpdateBanks (r : Mbc1) (s : State) : State :=
  let romSel := if r.bankingMode then r.romBank.toNat else r.secBank.toNat * 32 + r.romBank.toNat
  let ramSel := if r.bankingMode then r.secBank.toNat else 0
  { s with
    mapper := .mbc1 r
    rom := switchBank (romGeom s.cfg) romSel s.rom
    cartRam := if s.cfg.cartRamSize = .none then s.cartRam else switchBank (cartRamGeom s.cfg) ramSel s.cartRam }

/-- The ROM bank a written 5-bit or 7-bit field selects, 0 remapped to 1 (R132, R142). -/
def zeroRemap {w : Nat} (b : BitVec w) : BitVec w := if b = 0 then 1 else b

/-- A write to the ROM area under MBC1 (R131 to R134). -/
def mbc1Write (r : Mbc1) (n : Nat) (v : Byte) (s : State) : State :=
  if n < 0x2000 then
    { s with mapper := .mbc1 { r with ramEnabled := ramEnableWrite s.cfg.mbcRamenPolicy r.ramEnabled v } }
  else if n < 0x4000 then mbc1UpdateBanks { r with romBank := zeroRemap (v.extractLsb' 0 5) } s
  else if n < 0x6000 then mbc1UpdateBanks { r with secBank := v.extractLsb' 0 2 } s
  else mbc1UpdateBanks { r with bankingMode := v.getLsbD 0 } s

/-- A write to the ROM area under MBC3 (R141 to R143): 0x6000 to 0x7FFF is accepted and ignored. -/
def mbc3Write (r : Mbc3) (n : Nat) (v : Byte) (s : State) : State :=
  if n < 0x2000 then
    { s with mapper := .mbc3 { r with ramEnabled := ramEnableWrite s.cfg.mbcRamenPolicy r.ramEnabled v } }
  else if n < 0x4000 then
    let b := zeroRemap (v.extractLsb' 0 7)
    { s with mapper := .mbc3 { r with romBank := b }, rom := switchBank (romGeom s.cfg) b.toNat s.rom }
  else if n < 0x6000 then
    let b := v.extractLsb' 0 2
    { s with
      mapper := .mbc3 { r with secBank := b }
      cartRam := if s.cfg.cartRamSize = .none then s.cartRam else switchBank (cartRamGeom s.cfg) b.toNat s.cartRam }
  else s

/-- `MapperWriteRom(addr, v)` for an address in 0x0000 to 0x7FFF (R120, R126). -/
def mapperWriteRom (n : Nat) (v : Byte) (s : State) : State :=
  match s.mapper with
  | .noMapper => s
  | .mbc1 r => mbc1Write r n v s
  | .mbc3 r => mbc3Write r n v s

/-- `MapperReadRom(addr)` for an address in 0x0000 to 0x7FFF (R125, R135, R144). -/
def mapperReadRom (n : Nat) (s : State) : Byte :=
  match s.mapper with
  | .noMapper => Memory.read s.rom.buf n
  | _ => if n < 0x4000 then bankReadAt (romGeom s.cfg) 0 n s.rom else bankRead (romGeom s.cfg) (n - 0x4000) s.rom

/-- The RAM-enable latch; the constant 1 for NoMapper (R127). -/
def ramEnabled (s : State) : Bool :=
  match s.mapper with
  | .noMapper => true
  | .mbc1 r => r.ramEnabled
  | .mbc3 r => r.ramEnabled

/-- Whether cartridge RAM answers: enabled and declared (R150, R151). -/
def cartRamOpen (s : State) : Bool := ramEnabled s && s.cfg.cartRamSize != .none

/-- `MapperReadRam(off)` (R150). -/
def mapperReadRam (off : Nat) (s : State) : Byte :=
  if cartRamOpen s then bankRead (cartRamGeom s.cfg) off s.cartRam else undefinedRead

/-- `MapperWriteRam(off, v)` (R151). -/
def mapperWriteRam (off : Nat) (v : Byte) (s : State) : State :=
  if cartRamOpen s then { s with cartRam := bankWrite (cartRamGeom s.cfg) off v s.cartRam } else s

end Sys2Proof.Machine
end

