-- ==== Sys2Proof/Machine/Io.lean ====
section
/-! DEFINITION. The memory-mapped registers (spec/10_state.md R33 to R44): the register map, what a read returns, what a write does, with the side effects of LCDC bit 7 (spec/61_ppu.md R447) and of the DMA register (spec/62_timer_dma_joypad.md R510). -/

namespace Sys2Proof.Machine

/-- The registers of R33 in 0xFF00 to 0xFF7F. -/
inductive IoReg
  | p1
  | div
  | tima
  | tma
  | tac
  | ifr
  | lcdc
  | stat
  | scy
  | scx
  | ly
  | lyc
  | dma
  | bgp
  | obp0
  | obp1
  | wy
  | wx
  | boot
deriving DecidableEq, Repr

/-- The register map (R33), by the offset from 0xFF00; any other offset is not covered (R83). -/
def ioRegAt : Nat → Option IoReg
  | 0x00 => some .p1
  | 0x04 => some .div
  | 0x05 => some .tima
  | 0x06 => some .tma
  | 0x07 => some .tac
  | 0x0F => some .ifr
  | 0x40 => some .lcdc
  | 0x41 => some .stat
  | 0x42 => some .scy
  | 0x43 => some .scx
  | 0x44 => some .ly
  | 0x45 => some .lyc
  | 0x46 => some .dma
  | 0x47 => some .bgp
  | 0x48 => some .obp0
  | 0x49 => some .obp1
  | 0x4A => some .wy
  | 0x4B => some .wx
  | 0x50 => some .boot
  | _ => none

/-- This step's input sample; quiet when the list has run out (log entry 6). -/
def joyInput (s : State) : JoyInput := s.joyInputs.headD { edge := false, held := 0 }

/-- The low nibble of P1 (R34): 1s, less the held keys of each selected group. -/
def p1Keys (select : BitVec 2) (held : Byte) : BitVec 4 :=
  let n0 : BitVec 4 := if select.getLsbD 0 then 0xF else ~~~(held.extractLsb' 0 4)
  let n1 : BitVec 4 := if select.getLsbD 1 then 0xF else ~~~(held.extractLsb' 4 4)
  n0 &&& n1

/-- The mode number in STAT bits 1:0 (R40). -/
def modeNumber : PpuMode → BitVec 2
  | .hBlank => 0
  | .vBlank => 1
  | .oamScan => 2
  | .pixelPut => 3

/-- The byte a read of STAT returns (R40). -/
def statByte (p : Ppu) : Byte := 1#1 ++ p.statEn ++ BitVec.ofBool (p.ly == p.lyc) ++ modeNumber p.mode

/-- A read of an I/O register (R34 to R44). No register changes when read (R82). -/
def readIo (r : IoReg) (s : State) : Byte :=
  match r with
  | .p1 => 0b11#2 ++ s.joySelect ++ p1Keys s.joySelect (joyInput s).held
  | .div => s.timer.div.extractLsb' 8 8
  | .tima => s.timer.tima
  | .tma => s.timer.tma
  | .tac => s.timer.tac
  | .ifr => 0b111#3 ++ s.ifReg
  | .lcdc => s.ppu.lcdc
  | .stat => statByte s.ppu
  | .scy => s.ppu.scy
  | .scx => s.ppu.scx
  | .ly => s.ppu.ly
  | .lyc => s.ppu.lyc
  | .dma => s.dma.reg
  | .bgp => s.ppu.bgp
  | .obp0 => s.ppu.obp0
  | .obp1 => s.ppu.obp1
  | .wy => s.ppu.wy
  | .wx => s.ppu.wx
  | .boot => undefinedRead

/-- The PPU at line 0, dot 0 of a mode, as both edges of LCDC bit 7 leave it (R447). -/
def ppuRestart (mode : PpuMode) (p : Ppu) : Ppu :=
  { p with mode := mode, ly := 0, dot := 0, spriteExtra := 0, lineSprites := [] }

/-- A write to LCDC: the byte is stored, then an edge of bit 7 switches the PPU off or on (R39, R447). -/
def writeLcdc (v : Byte) (p : Ppu) : Ppu :=
  let stored := { p with lcdc := v }
  if p.lcdc.getLsbD 7 && !v.getLsbD 7 then { ppuRestart .hBlank stored with offBudget := 70224 }
  else if !p.lcdc.getLsbD 7 && v.getLsbD 7 then ppuRestart .oamScan stored
  else stored

/-- A write to an I/O register (R34 to R44, R510). -/
def writeIo (r : IoReg) (v : Byte) (s : State) : State :=
  match r with
  | .p1 => { s with joySelect := v.extractLsb' 4 2 }
  | .div => { s with timer := { s.timer with div := 0 } }
  | .tima => { s with timer := { s.timer with tima := v } }
  | .tma => { s with timer := { s.timer with tma := v } }
  | .tac => { s with timer := { s.timer with tac := v } }
  | .ifr => { s with ifReg := v.extractLsb' 0 5 }
  | .lcdc => { s with ppu := writeLcdc v s.ppu }
  | .stat => { s with ppu := { s.ppu with statEn := v.extractLsb' 3 4 } }
  | .scy => { s with ppu := { s.ppu with scy := v } }
  | .scx => { s with ppu := { s.ppu with scx := v } }
  | .ly => s
  | .lyc => { s with ppu := { s.ppu with lyc := v } }
  | .dma => { s with dma := { reg := v, active := true, index := 0 } }
  | .bgp => { s with ppu := { s.ppu with bgp := v } }
  | .obp0 => { s with ppu := { s.ppu with obp0 := v } }
  | .obp1 => { s with ppu := { s.ppu with obp1 := v } }
  | .wy => { s with ppu := { s.ppu with wy := v } }
  | .wx => { s with ppu := { s.ppu with wx := v } }
  | .boot => if v = 0 then s else { s with bootEnabled := false }

end Sys2Proof.Machine
end

