-- ==== Sys2Proof/Machine/Bus.lean ====
section
/-! DEFINITION. The memory bus decoder (spec/20_memory.md R70 to R85, R95, R96): the address map, the decoded read and write with and without the PPU lockouts, the CPU's masked view and the raw view. -/

namespace Sys2Proof.Machine

/-- The regions of the address map (R70), each with the offset its storage is reached at. -/
inductive Region
  | rom (addr : Nat)
  | vram (off : Nat)
  | cartRam (off : Nat)
  | wram (off : Nat)
  | oam (off : Nat)
  | io (r : IoReg)
  | hram (off : Nat)
  | ie
  | notCovered
deriving DecidableEq, Repr

/-- The address map (R70, R80, R83): total, and one region for each address. -/
def regionOf (addr : Word) : Region :=
  let n := addr.toNat
  if n < 0x8000 then .rom n
  else if n < 0xA000 then .vram (n - 0x8000)
  else if n < 0xC000 then .cartRam (n - 0xA000)
  else if n < 0xE000 then .wram (n - 0xC000)
  else if n < 0xFE00 then .wram (n - 0xE000)
  else if n < 0xFEA0 then .oam (n - 0xFE00)
  else if n < 0xFF00 then .notCovered
  else if n < 0xFF80 then
    match ioRegAt (n - 0xFF00) with
    | some r => .io r
    | none => .notCovered
  else if n < 0xFFFF then .hram (n - 0xFF80)
  else .ie

/-- VRAM is closed to the CPU in PixelPut (R78, R451). -/
def vramLocked (s : State) : Bool := s.ppu.mode == .pixelPut

/-- OAM is closed to the CPU in OAMScan and PixelPut (R81, R451). -/
def oamLocked (s : State) : Bool := s.ppu.mode == .oamScan || s.ppu.mode == .pixelPut

/-- A read of the ROM area: the boot ROM overlays its first 256 bytes while enabled (R76, R77). -/
def readRomArea (n : Nat) (s : State) : Byte :=
  if n < 0x100 && s.bootEnabled then Memory.read s.bootRom n else mapperReadRom n s

/-- `DecodeRead(addr, locked)` (R75 to R85). -/
def decodeRead (locked : Bool) (addr : Word) (s : State) : Byte :=
  match regionOf addr with
  | .rom n => readRomArea n s
  | .vram off => if locked && vramLocked s then undefinedRead else bankRead vramGeom off s.vram
  | .cartRam off => mapperReadRam off s
  | .wram off => bankRead wramGeom off s.wram
  | .oam off => if locked && oamLocked s then undefinedRead else Memory.read s.oam off
  | .io r => readIo r s
  | .hram off => Memory.read s.hram off
  | .ie => s.ie.zeroExtend 8
  | .notCovered => undefinedRead

/-- `DecodeWrite(addr, v, locked)` (R75 to R85). -/
def decodeWrite (locked : Bool) (addr : Word) (v : Byte) (s : State) : State :=
  match regionOf addr with
  | .rom n => mapperWriteRom n v s
  | .vram off => if locked && vramLocked s then s else { s with vram := bankWrite vramGeom off v s.vram }
  | .cartRam off => mapperWriteRam off v s
  | .wram off => { s with wram := bankWrite wramGeom off v s.wram }
  | .oam off => if locked && oamLocked s then s else { s with oam := Memory.write s.oam off v }
  | .io r => writeIo r v s
  | .hram off => { s with hram := Memory.write s.hram off v }
  | .ie => { s with ie := v.extractLsb' 0 5 }
  | .notCovered => s

/-- An OAM DMA transfer masks every CPU access below 0xFF00 (R74). -/
def dmaMasks (addr : Word) (s : State) : Bool := s.dma.active && addr.toNat < 0xFF00

/-- The byte a CPU read returns (R72, R74), without its cycles. -/
def busRead (addr : Word) (s : State) : Byte :=
  if dmaMasks addr s then undefinedRead else decodeRead true addr s

/-- What a CPU write does (R73, R74), without its cycles. -/
def busWrite (addr : Word) (v : Byte) (s : State) : State :=
  if dmaMasks addr s then s else decodeWrite true addr v s

/-- `RawRead(addr)` (R95): neither mask nor lockout. Also the raw read port (R14, R422). -/
def rawRead (addr : Word) (s : State) : Byte := decodeRead false addr s

/-- `RawWrite(addr, v)` (R96). -/
def rawWrite (addr : Word) (v : Byte) (s : State) : State := decodeWrite false addr v s

end Sys2Proof.Machine
end

