-- ==== Sys2Proof/Syntax.lean ====
section
/-! DEFINITION. The instructions of the core: one constructor for each row of spec/opcode_table.json (the eleven ILLEGAL rows share one, which holds the opcode byte), those with operands first. Operands are the bytes after the opcode (spec/30_encoding.md R160, R167); `atHL` is the operand `(HL)`, and so on. -/

namespace Sys2Proof

inductive Instr
  /-- `LD BC,d16` (0x01) -/
  | ld_BC_d16 (d16 : Word)
  /-- `LD B,d8` (0x06) -/
  | ld_B_d8 (d8 : Byte)
  /-- `LD (a16),SP` (0x08) -/
  | ld_atA16_SP (a16 : Word)
  /-- `LD C,d8` (0x0E) -/
  | ld_C_d8 (d8 : Byte)
  /-- `LD DE,d16` (0x11) -/
  | ld_DE_d16 (d16 : Word)
  /-- `LD D,d8` (0x16) -/
  | ld_D_d8 (d8 : Byte)
  /-- `JR e8` (0x18) -/
  | jr_e8 (e8 : Byte)
  /-- `LD E,d8` (0x1E) -/
  | ld_E_d8 (d8 : Byte)
  /-- `JR NZ,e8` (0x20) -/
  | jr_NZ_e8 (e8 : Byte)
  /-- `LD HL,d16` (0x21) -/
  | ld_HL_d16 (d16 : Word)
  /-- `LD H,d8` (0x26) -/
  | ld_H_d8 (d8 : Byte)
  /-- `JR Z,e8` (0x28) -/
  | jr_Z_e8 (e8 : Byte)
  /-- `LD L,d8` (0x2E) -/
  | ld_L_d8 (d8 : Byte)
  /-- `JR NC,e8` (0x30) -/
  | jr_NC_e8 (e8 : Byte)
  /-- `LD SP,d16` (0x31) -/
  | ld_SP_d16 (d16 : Word)
  /-- `LD (HL),d8` (0x36) -/
  | ld_atHL_d8 (d8 : Byte)
  /-- `JR C,e8` (0x38) -/
  | jr_C_e8 (e8 : Byte)
  /-- `LD A,d8` (0x3E) -/
  | ld_A_d8 (d8 : Byte)
  /-- `JP NZ,a16` (0xC2) -/
  | jp_NZ_a16 (a16 : Word)
  /-- `JP a16` (0xC3) -/
  | jp_a16 (a16 : Word)
  /-- `CALL NZ,a16` (0xC4) -/
  | call_NZ_a16 (a16 : Word)
  /-- `ADD A,d8` (0xC6) -/
  | add_A_d8 (d8 : Byte)
  /-- `JP Z,a16` (0xCA) -/
  | jp_Z_a16 (a16 : Word)
  /-- `CALL Z,a16` (0xCC) -/
  | call_Z_a16 (a16 : Word)
  /-- `CALL a16` (0xCD) -/
  | call_a16 (a16 : Word)
  /-- `ADC A,d8` (0xCE) -/
  | adc_A_d8 (d8 : Byte)
  /-- `JP NC,a16` (0xD2) -/
  | jp_NC_a16 (a16 : Word)
  /-- an undefined opcode byte (R172, R377) -/
  | illegal (op : Byte)
  /-- `CALL NC,a16` (0xD4) -/
  | call_NC_a16 (a16 : Word)
  /-- `SUB A,d8` (0xD6) -/
  | sub_A_d8 (d8 : Byte)
  /-- `JP C,a16` (0xDA) -/
  | jp_C_a16 (a16 : Word)
  /-- `CALL C,a16` (0xDC) -/
  | call_C_a16 (a16 : Word)
  /-- `SBC A,d8` (0xDE) -/
  | sbc_A_d8 (d8 : Byte)
  /-- `LDH (a8),A` (0xE0) -/
  | ldh_atA8_A (a8 : Byte)
  /-- `AND A,d8` (0xE6) -/
  | and_A_d8 (d8 : Byte)
  /-- `ADD SP,e8` (0xE8) -/
  | add_SP_e8 (e8 : Byte)
  /-- `LD (a16),A` (0xEA) -/
  | ld_atA16_A (a16 : Word)
  /-- `XOR A,d8` (0xEE) -/
  | xor_A_d8 (d8 : Byte)
  /-- `LDH A,(a8)` (0xF0) -/
  | ldh_A_atA8 (a8 : Byte)
  /-- `OR A,d8` (0xF6) -/
  | or_A_d8 (d8 : Byte)
  /-- `LD HL,SP+e8` (0xF8) -/
  | ld_HL_SPe8 (e8 : Byte)
  /-- `LD A,(a16)` (0xFA) -/
  | ld_A_atA16 (a16 : Word)
  /-- `CP A,d8` (0xFE) -/
  | cp_A_d8 (d8 : Byte)
  /-- `NOP` (0x00) -/
  | nop
  /-- `LD (BC),A` (0x02) -/
  | ld_atBC_A
  /-- `INC BC` (0x03) -/
  | inc_BC
  /-- `INC B` (0x04) -/
  | inc_B
  /-- `DEC B` (0x05) -/
  | dec_B
  /-- `RLCA` (0x07) -/
  | rlca
  /-- `ADD HL,BC` (0x09) -/
  | add_HL_BC
  /-- `LD A,(BC)` (0x0A) -/
  | ld_A_atBC
  /-- `DEC BC` (0x0B) -/
  | dec_BC
  /-- `INC C` (0x0C) -/
  | inc_C
  /-- `DEC C` (0x0D) -/
  | dec_C
  /-- `RRCA` (0x0F) -/
  | rrca
  /-- `STOP` (0x10) -/
  | stop
  /-- `LD (DE),A` (0x12) -/
  | ld_atDE_A
  /-- `INC DE` (0x13) -/
  | inc_DE
  /-- `INC D` (0x14) -/
  | inc_D
  /-- `DEC D` (0x15) -/
  | dec_D
  /-- `RLA` (0x17) -/
  | rla
  /-- `ADD HL,DE` (0x19) -/
  | add_HL_DE
  /-- `LD A,(DE)` (0x1A) -/
  | ld_A_atDE
  /-- `DEC DE` (0x1B) -/
  | dec_DE
  /-- `INC E` (0x1C) -/
  | inc_E
  /-- `DEC E` (0x1D) -/
  | dec_E
  /-- `RRA` (0x1F) -/
  | rra
  /-- `LD (HL+),A` (0x22) -/
  | ld_atHLinc_A
  /-- `INC HL` (0x23) -/
  | inc_HL
  /-- `INC H` (0x24) -/
  | inc_H
  /-- `DEC H` (0x25) -/
  | dec_H
  /-- `DAA` (0x27) -/
  | daa
  /-- `ADD HL,HL` (0x29) -/
  | add_HL_HL
  /-- `LD A,(HL+)` (0x2A) -/
  | ld_A_atHLinc
  /-- `DEC HL` (0x2B) -/
  | dec_HL
  /-- `INC L` (0x2C) -/
  | inc_L
  /-- `DEC L` (0x2D) -/
  | dec_L
  /-- `CPL` (0x2F) -/
  | cpl
  /-- `LD (HL-),A` (0x32) -/
  | ld_atHLdec_A
  /-- `INC SP` (0x33) -/
  | inc_SP
  /-- `INC (HL)` (0x34) -/
  | inc_atHL
  /-- `DEC (HL)` (0x35) -/
  | dec_atHL
  /-- `SCF` (0x37) -/
  | scf
  /-- `ADD HL,SP` (0x39) -/
  | add_HL_SP
  /-- `LD A,(HL-)` (0x3A) -/
  | ld_A_atHLdec
  /-- `DEC SP` (0x3B) -/
  | dec_SP
  /-- `INC A` (0x3C) -/
  | inc_A
  /-- `DEC A` (0x3D) -/
  | dec_A
  /-- `CCF` (0x3F) -/
  | ccf
  /-- `LD B,B` (0x40) -/
  | ld_B_B
  /-- `LD B,C` (0x41) -/
  | ld_B_C
  /-- `LD B,D` (0x42) -/
  | ld_B_D
  /-- `LD B,E` (0x43) -/
  | ld_B_E
  /-- `LD B,H` (0x44) -/
  | ld_B_H
  /-- `LD B,L` (0x45) -/
  | ld_B_L
  /-- `LD B,(HL)` (0x46) -/
  | ld_B_atHL
  /-- `LD B,A` (0x47) -/
  | ld_B_A
  /-- `LD C,B` (0x48) -/
  | ld_C_B
  /-- `LD C,C` (0x49) -/
  | ld_C_C
  /-- `LD C,D` (0x4A) -/
  | ld_C_D
  /-- `LD C,E` (0x4B) -/
  | ld_C_E
  /-- `LD C,H` (0x4C) -/
  | ld_C_H
  /-- `LD C,L` (0x4D) -/
  | ld_C_L
  /-- `LD C,(HL)` (0x4E) -/
  | ld_C_atHL
  /-- `LD C,A` (0x4F) -/
  | ld_C_A
  /-- `LD D,B` (0x50) -/
  | ld_D_B
  /-- `LD D,C` (0x51) -/
  | ld_D_C
  /-- `LD D,D` (0x52) -/
  | ld_D_D
  /-- `LD D,E` (0x53) -/
  | ld_D_E
  /-- `LD D,H` (0x54) -/
  | ld_D_H
  /-- `LD D,L` (0x55) -/
  | ld_D_L
  /-- `LD D,(HL)` (0x56) -/
  | ld_D_atHL
  /-- `LD D,A` (0x57) -/
  | ld_D_A
  /-- `LD E,B` (0x58) -/
  | ld_E_B
  /-- `LD E,C` (0x59) -/
  | ld_E_C
  /-- `LD E,D` (0x5A) -/
  | ld_E_D
  /-- `LD E,E` (0x5B) -/
  | ld_E_E
  /-- `LD E,H` (0x5C) -/
  | ld_E_H
  /-- `LD E,L` (0x5D) -/
  | ld_E_L
  /-- `LD E,(HL)` (0x5E) -/
  | ld_E_atHL
  /-- `LD E,A` (0x5F) -/
  | ld_E_A
  /-- `LD H,B` (0x60) -/
  | ld_H_B
  /-- `LD H,C` (0x61) -/
  | ld_H_C
  /-- `LD H,D` (0x62) -/
  | ld_H_D
  /-- `LD H,E` (0x63) -/
  | ld_H_E
  /-- `LD H,H` (0x64) -/
  | ld_H_H
  /-- `LD H,L` (0x65) -/
  | ld_H_L
  /-- `LD H,(HL)` (0x66) -/
  | ld_H_atHL
  /-- `LD H,A` (0x67) -/
  | ld_H_A
  /-- `LD L,B` (0x68) -/
  | ld_L_B
  /-- `LD L,C` (0x69) -/
  | ld_L_C
  /-- `LD L,D` (0x6A) -/
  | ld_L_D
  /-- `LD L,E` (0x6B) -/
  | ld_L_E
  /-- `LD L,H` (0x6C) -/
  | ld_L_H
  /-- `LD L,L` (0x6D) -/
  | ld_L_L
  /-- `LD L,(HL)` (0x6E) -/
  | ld_L_atHL
  /-- `LD L,A` (0x6F) -/
  | ld_L_A
  /-- `LD (HL),B` (0x70) -/
  | ld_atHL_B
  /-- `LD (HL),C` (0x71) -/
  | ld_atHL_C
  /-- `LD (HL),D` (0x72) -/
  | ld_atHL_D
  /-- `LD (HL),E` (0x73) -/
  | ld_atHL_E
  /-- `LD (HL),H` (0x74) -/
  | ld_atHL_H
  /-- `LD (HL),L` (0x75) -/
  | ld_atHL_L
  /-- `HALT` (0x76) -/
  | halt
  /-- `LD (HL),A` (0x77) -/
  | ld_atHL_A
  /-- `LD A,B` (0x78) -/
  | ld_A_B
  /-- `LD A,C` (0x79) -/
  | ld_A_C
  /-- `LD A,D` (0x7A) -/
  | ld_A_D
  /-- `LD A,E` (0x7B) -/
  | ld_A_E
  /-- `LD A,H` (0x7C) -/
  | ld_A_H
  /-- `LD A,L` (0x7D) -/
  | ld_A_L
  /-- `LD A,(HL)` (0x7E) -/
  | ld_A_atHL
  /-- `LD A,A` (0x7F) -/
  | ld_A_A
  /-- `ADD A,B` (0x80) -/
  | add_A_B
  /-- `ADD A,C` (0x81) -/
  | add_A_C
  /-- `ADD A,D` (0x82) -/
  | add_A_D
  /-- `ADD A,E` (0x83) -/
  | add_A_E
  /-- `ADD A,H` (0x84) -/
  | add_A_H
  /-- `ADD A,L` (0x85) -/
  | add_A_L
  /-- `ADD A,(HL)` (0x86) -/
  | add_A_atHL
  /-- `ADD A,A` (0x87) -/
  | add_A_A
  /-- `ADC A,B` (0x88) -/
  | adc_A_B
  /-- `ADC A,C` (0x89) -/
  | adc_A_C
  /-- `ADC A,D` (0x8A) -/
  | adc_A_D
  /-- `ADC A,E` (0x8B) -/
  | adc_A_E
  /-- `ADC A,H` (0x8C) -/
  | adc_A_H
  /-- `ADC A,L` (0x8D) -/
  | adc_A_L
  /-- `ADC A,(HL)` (0x8E) -/
  | adc_A_atHL
  /-- `ADC A,A` (0x8F) -/
  | adc_A_A
  /-- `SUB A,B` (0x90) -/
  | sub_A_B
  /-- `SUB A,C` (0x91) -/
  | sub_A_C
  /-- `SUB A,D` (0x92) -/
  | sub_A_D
  /-- `SUB A,E` (0x93) -/
  | sub_A_E
  /-- `SUB A,H` (0x94) -/
  | sub_A_H
  /-- `SUB A,L` (0x95) -/
  | sub_A_L
  /-- `SUB A,(HL)` (0x96) -/
  | sub_A_atHL
  /-- `SUB A,A` (0x97) -/
  | sub_A_A
  /-- `SBC A,B` (0x98) -/
  | sbc_A_B
  /-- `SBC A,C` (0x99) -/
  | sbc_A_C
  /-- `SBC A,D` (0x9A) -/
  | sbc_A_D
  /-- `SBC A,E` (0x9B) -/
  | sbc_A_E
  /-- `SBC A,H` (0x9C) -/
  | sbc_A_H
  /-- `SBC A,L` (0x9D) -/
  | sbc_A_L
  /-- `SBC A,(HL)` (0x9E) -/
  | sbc_A_atHL
  /-- `SBC A,A` (0x9F) -/
  | sbc_A_A
  /-- `AND A,B` (0xA0) -/
  | and_A_B
  /-- `AND A,C` (0xA1) -/
  | and_A_C
  /-- `AND A,D` (0xA2) -/
  | and_A_D
  /-- `AND A,E` (0xA3) -/
  | and_A_E
  /-- `AND A,H` (0xA4) -/
  | and_A_H
  /-- `AND A,L` (0xA5) -/
  | and_A_L
  /-- `AND A,(HL)` (0xA6) -/
  | and_A_atHL
  /-- `AND A,A` (0xA7) -/
  | and_A_A
  /-- `XOR A,B` (0xA8) -/
  | xor_A_B
  /-- `XOR A,C` (0xA9) -/
  | xor_A_C
  /-- `XOR A,D` (0xAA) -/
  | xor_A_D
  /-- `XOR A,E` (0xAB) -/
  | xor_A_E
  /-- `XOR A,H` (0xAC) -/
  | xor_A_H
  /-- `XOR A,L` (0xAD) -/
  | xor_A_L
  /-- `XOR A,(HL)` (0xAE) -/
  | xor_A_atHL
  /-- `XOR A,A` (0xAF) -/
  | xor_A_A
  /-- `OR A,B` (0xB0) -/
  | or_A_B
  /-- `OR A,C` (0xB1) -/
  | or_A_C
  /-- `OR A,D` (0xB2) -/
  | or_A_D
  /-- `OR A,E` (0xB3) -/
  | or_A_E
  /-- `OR A,H` (0xB4) -/
  | or_A_H
  /-- `OR A,L` (0xB5) -/
  | or_A_L
  /-- `OR A,(HL)` (0xB6) -/
  | or_A_atHL
  /-- `OR A,A` (0xB7) -/
  | or_A_A
  /-- `CP A,B` (0xB8) -/
  | cp_A_B
  /-- `CP A,C` (0xB9) -/
  | cp_A_C
  /-- `CP A,D` (0xBA) -/
  | cp_A_D
  /-- `CP A,E` (0xBB) -/
  | cp_A_E
  /-- `CP A,H` (0xBC) -/
  | cp_A_H
  /-- `CP A,L` (0xBD) -/
  | cp_A_L
  /-- `CP A,(HL)` (0xBE) -/
  | cp_A_atHL
  /-- `CP A,A` (0xBF) -/
  | cp_A_A
  /-- `RET NZ` (0xC0) -/
  | ret_NZ
  /-- `POP BC` (0xC1) -/
  | pop_BC
  /-- `PUSH BC` (0xC5) -/
  | push_BC
  /-- `RST 00H` (0xC7) -/
  | rst_00H
  /-- `RET Z` (0xC8) -/
  | ret_Z
  /-- `RET` (0xC9) -/
  | ret
  /-- 0xCB, the prefix row (R375) -/
  | cbPrefix
  /-- `RST 08H` (0xCF) -/
  | rst_08H
  /-- `RET NC` (0xD0) -/
  | ret_NC
  /-- `POP DE` (0xD1) -/
  | pop_DE
  /-- `PUSH DE` (0xD5) -/
  | push_DE
  /-- `RST 10H` (0xD7) -/
  | rst_10H
  /-- `RET C` (0xD8) -/
  | ret_C
  /-- `RETI` (0xD9) -/
  | reti
  /-- `RST 18H` (0xDF) -/
  | rst_18H
  /-- `POP HL` (0xE1) -/
  | pop_HL
  /-- `LD (C),A` (0xE2) -/
  | ld_atC_A
  /-- `PUSH HL` (0xE5) -/
  | push_HL
  /-- `RST 20H` (0xE7) -/
  | rst_20H
  /-- `JP HL` (0xE9) -/
  | jp_HL
  /-- `RST 28H` (0xEF) -/
  | rst_28H
  /-- `POP AF` (0xF1) -/
  | pop_AF
  /-- `LD A,(C)` (0xF2) -/
  | ld_A_atC
  /-- `DI` (0xF3) -/
  | di
  /-- `PUSH AF` (0xF5) -/
  | push_AF
  /-- `RST 30H` (0xF7) -/
  | rst_30H
  /-- `LD SP,HL` (0xF9) -/
  | ld_SP_HL
  /-- `EI` (0xFB) -/
  | ei
  /-- `RST 38H` (0xFF) -/
  | rst_38H
  /-- `RLC B` (0xCB 0x00) -/
  | rlc_B
  /-- `RLC C` (0xCB 0x01) -/
  | rlc_C
  /-- `RLC D` (0xCB 0x02) -/
  | rlc_D
  /-- `RLC E` (0xCB 0x03) -/
  | rlc_E
  /-- `RLC H` (0xCB 0x04) -/
  | rlc_H
  /-- `RLC L` (0xCB 0x05) -/
  | rlc_L
  /-- `RLC (HL)` (0xCB 0x06) -/
  | rlc_atHL
  /-- `RLC A` (0xCB 0x07) -/
  | rlc_A
  /-- `RRC B` (0xCB 0x08) -/
  | rrc_B
  /-- `RRC C` (0xCB 0x09) -/
  | rrc_C
  /-- `RRC D` (0xCB 0x0A) -/
  | rrc_D
  /-- `RRC E` (0xCB 0x0B) -/
  | rrc_E
  /-- `RRC H` (0xCB 0x0C) -/
  | rrc_H
  /-- `RRC L` (0xCB 0x0D) -/
  | rrc_L
  /-- `RRC (HL)` (0xCB 0x0E) -/
  | rrc_atHL
  /-- `RRC A` (0xCB 0x0F) -/
  | rrc_A
  /-- `RL B` (0xCB 0x10) -/
  | rl_B
  /-- `RL C` (0xCB 0x11) -/
  | rl_C
  /-- `RL D` (0xCB 0x12) -/
  | rl_D
  /-- `RL E` (0xCB 0x13) -/
  | rl_E
  /-- `RL H` (0xCB 0x14) -/
  | rl_H
  /-- `RL L` (0xCB 0x15) -/
  | rl_L
  /-- `RL (HL)` (0xCB 0x16) -/
  | rl_atHL
  /-- `RL A` (0xCB 0x17) -/
  | rl_A
  /-- `RR B` (0xCB 0x18) -/
  | rr_B
  /-- `RR C` (0xCB 0x19) -/
  | rr_C
  /-- `RR D` (0xCB 0x1A) -/
  | rr_D
  /-- `RR E` (0xCB 0x1B) -/
  | rr_E
  /-- `RR H` (0xCB 0x1C) -/
  | rr_H
  /-- `RR L` (0xCB 0x1D) -/
  | rr_L
  /-- `RR (HL)` (0xCB 0x1E) -/
  | rr_atHL
  /-- `RR A` (0xCB 0x1F) -/
  | rr_A
  /-- `SLA B` (0xCB 0x20) -/
  | sla_B
  /-- `SLA C` (0xCB 0x21) -/
  | sla_C
  /-- `SLA D` (0xCB 0x22) -/
  | sla_D
  /-- `SLA E` (0xCB 0x23) -/
  | sla_E
  /-- `SLA H` (0xCB 0x24) -/
  | sla_H
  /-- `SLA L` (0xCB 0x25) -/
  | sla_L
  /-- `SLA (HL)` (0xCB 0x26) -/
  | sla_atHL
  /-- `SLA A` (0xCB 0x27) -/
  | sla_A
  /-- `SRA B` (0xCB 0x28) -/
  | sra_B
  /-- `SRA C` (0xCB 0x29) -/
  | sra_C
  /-- `SRA D` (0xCB 0x2A) -/
  | sra_D
  /-- `SRA E` (0xCB 0x2B) -/
  | sra_E
  /-- `SRA H` (0xCB 0x2C) -/
  | sra_H
  /-- `SRA L` (0xCB 0x2D) -/
  | sra_L
  /-- `SRA (HL)` (0xCB 0x2E) -/
  | sra_atHL
  /-- `SRA A` (0xCB 0x2F) -/
  | sra_A
  /-- `SWAP B` (0xCB 0x30) -/
  | swap_B
  /-- `SWAP C` (0xCB 0x31) -/
  | swap_C
  /-- `SWAP D` (0xCB 0x32) -/
  | swap_D
  /-- `SWAP E` (0xCB 0x33) -/
  | swap_E
  /-- `SWAP H` (0xCB 0x34) -/
  | swap_H
  /-- `SWAP L` (0xCB 0x35) -/
  | swap_L
  /-- `SWAP (HL)` (0xCB 0x36) -/
  | swap_atHL
  /-- `SWAP A` (0xCB 0x37) -/
  | swap_A
  /-- `SRL B` (0xCB 0x38) -/
  | srl_B
  /-- `SRL C` (0xCB 0x39) -/
  | srl_C
  /-- `SRL D` (0xCB 0x3A) -/
  | srl_D
  /-- `SRL E` (0xCB 0x3B) -/
  | srl_E
  /-- `SRL H` (0xCB 0x3C) -/
  | srl_H
  /-- `SRL L` (0xCB 0x3D) -/
  | srl_L
  /-- `SRL (HL)` (0xCB 0x3E) -/
  | srl_atHL
  /-- `SRL A` (0xCB 0x3F) -/
  | srl_A
  /-- `BIT 0,B` (0xCB 0x40) -/
  | bit_0_B
  /-- `BIT 0,C` (0xCB 0x41) -/
  | bit_0_C
  /-- `BIT 0,D` (0xCB 0x42) -/
  | bit_0_D
  /-- `BIT 0,E` (0xCB 0x43) -/
  | bit_0_E
  /-- `BIT 0,H` (0xCB 0x44) -/
  | bit_0_H
  /-- `BIT 0,L` (0xCB 0x45) -/
  | bit_0_L
  /-- `BIT 0,(HL)` (0xCB 0x46) -/
  | bit_0_atHL
  /-- `BIT 0,A` (0xCB 0x47) -/
  | bit_0_A
  /-- `BIT 1,B` (0xCB 0x48) -/
  | bit_1_B
  /-- `BIT 1,C` (0xCB 0x49) -/
  | bit_1_C
  /-- `BIT 1,D` (0xCB 0x4A) -/
  | bit_1_D
  /-- `BIT 1,E` (0xCB 0x4B) -/
  | bit_1_E
  /-- `BIT 1,H` (0xCB 0x4C) -/
  | bit_1_H
  /-- `BIT 1,L` (0xCB 0x4D) -/
  | bit_1_L
  /-- `BIT 1,(HL)` (0xCB 0x4E) -/
  | bit_1_atHL
  /-- `BIT 1,A` (0xCB 0x4F) -/
  | bit_1_A
  /-- `BIT 2,B` (0xCB 0x50) -/
  | bit_2_B
  /-- `BIT 2,C` (0xCB 0x51) -/
  | bit_2_C
  /-- `BIT 2,D` (0xCB 0x52) -/
  | bit_2_D
  /-- `BIT 2,E` (0xCB 0x53) -/
  | bit_2_E
  /-- `BIT 2,H` (0xCB 0x54) -/
  | bit_2_H
  /-- `BIT 2,L` (0xCB 0x55) -/
  | bit_2_L
  /-- `BIT 2,(HL)` (0xCB 0x56) -/
  | bit_2_atHL
  /-- `BIT 2,A` (0xCB 0x57) -/
  | bit_2_A
  /-- `BIT 3,B` (0xCB 0x58) -/
  | bit_3_B
  /-- `BIT 3,C` (0xCB 0x59) -/
  | bit_3_C
  /-- `BIT 3,D` (0xCB 0x5A) -/
  | bit_3_D
  /-- `BIT 3,E` (0xCB 0x5B) -/
  | bit_3_E
  /-- `BIT 3,H` (0xCB 0x5C) -/
  | bit_3_H
  /-- `BIT 3,L` (0xCB 0x5D) -/
  | bit_3_L
  /-- `BIT 3,(HL)` (0xCB 0x5E) -/
  | bit_3_atHL
  /-- `BIT 3,A` (0xCB 0x5F) -/
  | bit_3_A
  /-- `BIT 4,B` (0xCB 0x60) -/
  | bit_4_B
  /-- `BIT 4,C` (0xCB 0x61) -/
  | bit_4_C
  /-- `BIT 4,D` (0xCB 0x62) -/
  | bit_4_D
  /-- `BIT 4,E` (0xCB 0x63) -/
  | bit_4_E
  /-- `BIT 4,H` (0xCB 0x64) -/
  | bit_4_H
  /-- `BIT 4,L` (0xCB 0x65) -/
  | bit_4_L
  /-- `BIT 4,(HL)` (0xCB 0x66) -/
  | bit_4_atHL
  /-- `BIT 4,A` (0xCB 0x67) -/
  | bit_4_A
  /-- `BIT 5,B` (0xCB 0x68) -/
  | bit_5_B
  /-- `BIT 5,C` (0xCB 0x69) -/
  | bit_5_C
  /-- `BIT 5,D` (0xCB 0x6A) -/
  | bit_5_D
  /-- `BIT 5,E` (0xCB 0x6B) -/
  | bit_5_E
  /-- `BIT 5,H` (0xCB 0x6C) -/
  | bit_5_H
  /-- `BIT 5,L` (0xCB 0x6D) -/
  | bit_5_L
  /-- `BIT 5,(HL)` (0xCB 0x6E) -/
  | bit_5_atHL
  /-- `BIT 5,A` (0xCB 0x6F) -/
  | bit_5_A
  /-- `BIT 6,B` (0xCB 0x70) -/
  | bit_6_B
  /-- `BIT 6,C` (0xCB 0x71) -/
  | bit_6_C
  /-- `BIT 6,D` (0xCB 0x72) -/
  | bit_6_D
  /-- `BIT 6,E` (0xCB 0x73) -/
  | bit_6_E
  /-- `BIT 6,H` (0xCB 0x74) -/
  | bit_6_H
  /-- `BIT 6,L` (0xCB 0x75) -/
  | bit_6_L
  /-- `BIT 6,(HL)` (0xCB 0x76) -/
  | bit_6_atHL
  /-- `BIT 6,A` (0xCB 0x77) -/
  | bit_6_A
  /-- `BIT 7,B` (0xCB 0x78) -/
  | bit_7_B
  /-- `BIT 7,C` (0xCB 0x79) -/
  | bit_7_C
  /-- `BIT 7,D` (0xCB 0x7A) -/
  | bit_7_D
  /-- `BIT 7,E` (0xCB 0x7B) -/
  | bit_7_E
  /-- `BIT 7,H` (0xCB 0x7C) -/
  | bit_7_H
  /-- `BIT 7,L` (0xCB 0x7D) -/
  | bit_7_L
  /-- `BIT 7,(HL)` (0xCB 0x7E) -/
  | bit_7_atHL
  /-- `BIT 7,A` (0xCB 0x7F) -/
  | bit_7_A
  /-- `RES 0,B` (0xCB 0x80) -/
  | res_0_B
  /-- `RES 0,C` (0xCB 0x81) -/
  | res_0_C
  /-- `RES 0,D` (0xCB 0x82) -/
  | res_0_D
  /-- `RES 0,E` (0xCB 0x83) -/
  | res_0_E
  /-- `RES 0,H` (0xCB 0x84) -/
  | res_0_H
  /-- `RES 0,L` (0xCB 0x85) -/
  | res_0_L
  /-- `RES 0,(HL)` (0xCB 0x86) -/
  | res_0_atHL
  /-- `RES 0,A` (0xCB 0x87) -/
  | res_0_A
  /-- `RES 1,B` (0xCB 0x88) -/
  | res_1_B
  /-- `RES 1,C` (0xCB 0x89) -/
  | res_1_C
  /-- `RES 1,D` (0xCB 0x8A) -/
  | res_1_D
  /-- `RES 1,E` (0xCB 0x8B) -/
  | res_1_E
  /-- `RES 1,H` (0xCB 0x8C) -/
  | res_1_H
  /-- `RES 1,L` (0xCB 0x8D) -/
  | res_1_L
  /-- `RES 1,(HL)` (0xCB 0x8E) -/
  | res_1_atHL
  /-- `RES 1,A` (0xCB 0x8F) -/
  | res_1_A
  /-- `RES 2,B` (0xCB 0x90) -/
  | res_2_B
  /-- `RES 2,C` (0xCB 0x91) -/
  | res_2_C
  /-- `RES 2,D` (0xCB 0x92) -/
  | res_2_D
  /-- `RES 2,E` (0xCB 0x93) -/
  | res_2_E
  /-- `RES 2,H` (0xCB 0x94) -/
  | res_2_H
  /-- `RES 2,L` (0xCB 0x95) -/
  | res_2_L
  /-- `RES 2,(HL)` (0xCB 0x96) -/
  | res_2_atHL
  /-- `RES 2,A` (0xCB 0x97) -/
  | res_2_A
  /-- `RES 3,B` (0xCB 0x98) -/
  | res_3_B
  /-- `RES 3,C` (0xCB 0x99) -/
  | res_3_C
  /-- `RES 3,D` (0xCB 0x9A) -/
  | res_3_D
  /-- `RES 3,E` (0xCB 0x9B) -/
  | res_3_E
  /-- `RES 3,H` (0xCB 0x9C) -/
  | res_3_H
  /-- `RES 3,L` (0xCB 0x9D) -/
  | res_3_L
  /-- `RES 3,(HL)` (0xCB 0x9E) -/
  | res_3_atHL
  /-- `RES 3,A` (0xCB 0x9F) -/
  | res_3_A
  /-- `RES 4,B` (0xCB 0xA0) -/
  | res_4_B
  /-- `RES 4,C` (0xCB 0xA1) -/
  | res_4_C
  /-- `RES 4,D` (0xCB 0xA2) -/
  | res_4_D
  /-- `RES 4,E` (0xCB 0xA3) -/
  | res_4_E
  /-- `RES 4,H` (0xCB 0xA4) -/
  | res_4_H
  /-- `RES 4,L` (0xCB 0xA5) -/
  | res_4_L
  /-- `RES 4,(HL)` (0xCB 0xA6) -/
  | res_4_atHL
  /-- `RES 4,A` (0xCB 0xA7) -/
  | res_4_A
  /-- `RES 5,B` (0xCB 0xA8) -/
  | res_5_B
  /-- `RES 5,C` (0xCB 0xA9) -/
  | res_5_C
  /-- `RES 5,D` (0xCB 0xAA) -/
  | res_5_D
  /-- `RES 5,E` (0xCB 0xAB) -/
  | res_5_E
  /-- `RES 5,H` (0xCB 0xAC) -/
  | res_5_H
  /-- `RES 5,L` (0xCB 0xAD) -/
  | res_5_L
  /-- `RES 5,(HL)` (0xCB 0xAE) -/
  | res_5_atHL
  /-- `RES 5,A` (0xCB 0xAF) -/
  | res_5_A
  /-- `RES 6,B` (0xCB 0xB0) -/
  | res_6_B
  /-- `RES 6,C` (0xCB 0xB1) -/
  | res_6_C
  /-- `RES 6,D` (0xCB 0xB2) -/
  | res_6_D
  /-- `RES 6,E` (0xCB 0xB3) -/
  | res_6_E
  /-- `RES 6,H` (0xCB 0xB4) -/
  | res_6_H
  /-- `RES 6,L` (0xCB 0xB5) -/
  | res_6_L
  /-- `RES 6,(HL)` (0xCB 0xB6) -/
  | res_6_atHL
  /-- `RES 6,A` (0xCB 0xB7) -/
  | res_6_A
  /-- `RES 7,B` (0xCB 0xB8) -/
  | res_7_B
  /-- `RES 7,C` (0xCB 0xB9) -/
  | res_7_C
  /-- `RES 7,D` (0xCB 0xBA) -/
  | res_7_D
  /-- `RES 7,E` (0xCB 0xBB) -/
  | res_7_E
  /-- `RES 7,H` (0xCB 0xBC) -/
  | res_7_H
  /-- `RES 7,L` (0xCB 0xBD) -/
  | res_7_L
  /-- `RES 7,(HL)` (0xCB 0xBE) -/
  | res_7_atHL
  /-- `RES 7,A` (0xCB 0xBF) -/
  | res_7_A
  /-- `SET 0,B` (0xCB 0xC0) -/
  | set_0_B
  /-- `SET 0,C` (0xCB 0xC1) -/
  | set_0_C
  /-- `SET 0,D` (0xCB 0xC2) -/
  | set_0_D
  /-- `SET 0,E` (0xCB 0xC3) -/
  | set_0_E
  /-- `SET 0,H` (0xCB 0xC4) -/
  | set_0_H
  /-- `SET 0,L` (0xCB 0xC5) -/
  | set_0_L
  /-- `SET 0,(HL)` (0xCB 0xC6) -/
  | set_0_atHL
  /-- `SET 0,A` (0xCB 0xC7) -/
  | set_0_A
  /-- `SET 1,B` (0xCB 0xC8) -/
  | set_1_B
  /-- `SET 1,C` (0xCB 0xC9) -/
  | set_1_C
  /-- `SET 1,D` (0xCB 0xCA) -/
  | set_1_D
  /-- `SET 1,E` (0xCB 0xCB) -/
  | set_1_E
  /-- `SET 1,H` (0xCB 0xCC) -/
  | set_1_H
  /-- `SET 1,L` (0xCB 0xCD) -/
  | set_1_L
  /-- `SET 1,(HL)` (0xCB 0xCE) -/
  | set_1_atHL
  /-- `SET 1,A` (0xCB 0xCF) -/
  | set_1_A
  /-- `SET 2,B` (0xCB 0xD0) -/
  | set_2_B
  /-- `SET 2,C` (0xCB 0xD1) -/
  | set_2_C
  /-- `SET 2,D` (0xCB 0xD2) -/
  | set_2_D
  /-- `SET 2,E` (0xCB 0xD3) -/
  | set_2_E
  /-- `SET 2,H` (0xCB 0xD4) -/
  | set_2_H
  /-- `SET 2,L` (0xCB 0xD5) -/
  | set_2_L
  /-- `SET 2,(HL)` (0xCB 0xD6) -/
  | set_2_atHL
  /-- `SET 2,A` (0xCB 0xD7) -/
  | set_2_A
  /-- `SET 3,B` (0xCB 0xD8) -/
  | set_3_B
  /-- `SET 3,C` (0xCB 0xD9) -/
  | set_3_C
  /-- `SET 3,D` (0xCB 0xDA) -/
  | set_3_D
  /-- `SET 3,E` (0xCB 0xDB) -/
  | set_3_E
  /-- `SET 3,H` (0xCB 0xDC) -/
  | set_3_H
  /-- `SET 3,L` (0xCB 0xDD) -/
  | set_3_L
  /-- `SET 3,(HL)` (0xCB 0xDE) -/
  | set_3_atHL
  /-- `SET 3,A` (0xCB 0xDF) -/
  | set_3_A
  /-- `SET 4,B` (0xCB 0xE0) -/
  | set_4_B
  /-- `SET 4,C` (0xCB 0xE1) -/
  | set_4_C
  /-- `SET 4,D` (0xCB 0xE2) -/
  | set_4_D
  /-- `SET 4,E` (0xCB 0xE3) -/
  | set_4_E
  /-- `SET 4,H` (0xCB 0xE4) -/
  | set_4_H
  /-- `SET 4,L` (0xCB 0xE5) -/
  | set_4_L
  /-- `SET 4,(HL)` (0xCB 0xE6) -/
  | set_4_atHL
  /-- `SET 4,A` (0xCB 0xE7) -/
  | set_4_A
  /-- `SET 5,B` (0xCB 0xE8) -/
  | set_5_B
  /-- `SET 5,C` (0xCB 0xE9) -/
  | set_5_C
  /-- `SET 5,D` (0xCB 0xEA) -/
  | set_5_D
  /-- `SET 5,E` (0xCB 0xEB) -/
  | set_5_E
  /-- `SET 5,H` (0xCB 0xEC) -/
  | set_5_H
  /-- `SET 5,L` (0xCB 0xED) -/
  | set_5_L
  /-- `SET 5,(HL)` (0xCB 0xEE) -/
  | set_5_atHL
  /-- `SET 5,A` (0xCB 0xEF) -/
  | set_5_A
  /-- `SET 6,B` (0xCB 0xF0) -/
  | set_6_B
  /-- `SET 6,C` (0xCB 0xF1) -/
  | set_6_C
  /-- `SET 6,D` (0xCB 0xF2) -/
  | set_6_D
  /-- `SET 6,E` (0xCB 0xF3) -/
  | set_6_E
  /-- `SET 6,H` (0xCB 0xF4) -/
  | set_6_H
  /-- `SET 6,L` (0xCB 0xF5) -/
  | set_6_L
  /-- `SET 6,(HL)` (0xCB 0xF6) -/
  | set_6_atHL
  /-- `SET 6,A` (0xCB 0xF7) -/
  | set_6_A
  /-- `SET 7,B` (0xCB 0xF8) -/
  | set_7_B
  /-- `SET 7,C` (0xCB 0xF9) -/
  | set_7_C
  /-- `SET 7,D` (0xCB 0xFA) -/
  | set_7_D
  /-- `SET 7,E` (0xCB 0xFB) -/
  | set_7_E
  /-- `SET 7,H` (0xCB 0xFC) -/
  | set_7_H
  /-- `SET 7,L` (0xCB 0xFD) -/
  | set_7_L
  /-- `SET 7,(HL)` (0xCB 0xFE) -/
  | set_7_atHL
  /-- `SET 7,A` (0xCB 0xFF) -/
  | set_7_A
deriving DecidableEq, Repr

end Sys2Proof
end

