-- ==== Sys2Proof/WellFormed.lean ====
section
/-! DEFINITION. When an instruction is one the encoding admits. Operand widths are in the types, so the only check is the byte of `illegal`. -/

namespace Sys2Proof

/-- The eleven undefined base opcodes (spec/30_encoding.md R172). -/
def undefinedOpcodes : List Byte :=
  [0xD3, 0xDB, 0xDD, 0xE3, 0xE4, 0xEB, 0xEC, 0xED, 0xF4, 0xFC, 0xFD]

/-- Every operand value of every row is admitted (R167); `illegal` stands for the bytes of R172 only. -/
def Instr.wellFormed : Instr → Bool
  | .illegal op => undefinedOpcodes.contains op
  | _ => true

end Sys2Proof
end

