-- ==== Sys2Proof/Decode.lean ====
section
/-! DEFINITION. Decoding (spec/30_encoding.md R160 to R172): the two opcode tables, a total decoder of byte lists that rejects by name, and the encoder, both written from the table of R170 and R171. Helpers of byte order (spec/20_memory.md R100) and of the opcode table's numbering (R176) stand here too. -/

namespace Sys2Proof

/-- The low byte of a 16-bit value (R100). -/
def loByte (v : Word) : Byte := v.extractLsb' 0 8

/-- The high byte of a 16-bit value (R100). -/
def hiByte (v : Word) : Byte := v.extractLsb' 8 8

/-- `hi:lo` (R9, R100). -/
def joinBytes (lo hi : Byte) : Word := hi ++ lo

/-- What one row of the base table says follows the opcode byte (R160): nothing, one operand byte, two operand bytes
(low first), or the second byte of the CB table. -/
inductive Row
  | op (i : Instr)
  | d8 (mk : Byte → Instr)
  | d16 (mk : Word → Instr)
  | cbTable

/-- Base opcodes 0x00 to 0x0F (R170, R172). -/
def baseRows0 : List Row :=
  [.op .nop, .d16 .ld_BC_d16, .op .ld_atBC_A, .op .inc_BC, .op .inc_B, .op .dec_B, .d8 .ld_B_d8, .op .rlca,
   .d16 .ld_atA16_SP, .op .add_HL_BC, .op .ld_A_atBC, .op .dec_BC, .op .inc_C, .op .dec_C, .d8 .ld_C_d8,
   .op .rrca]

/-- Base opcodes 0x10 to 0x1F (R170, R172). -/
def baseRows1 : List Row :=
  [.op .stop, .d16 .ld_DE_d16, .op .ld_atDE_A, .op .inc_DE, .op .inc_D, .op .dec_D, .d8 .ld_D_d8, .op .rla,
   .d8 .jr_e8, .op .add_HL_DE, .op .ld_A_atDE, .op .dec_DE, .op .inc_E, .op .dec_E, .d8 .ld_E_d8, .op .rra]

/-- Base opcodes 0x20 to 0x2F (R170, R172). -/
def baseRows2 : List Row :=
  [.d8 .jr_NZ_e8, .d16 .ld_HL_d16, .op .ld_atHLinc_A, .op .inc_HL, .op .inc_H, .op .dec_H, .d8 .ld_H_d8,
   .op .daa, .d8 .jr_Z_e8, .op .add_HL_HL, .op .ld_A_atHLinc, .op .dec_HL, .op .inc_L, .op .dec_L,
   .d8 .ld_L_d8, .op .cpl]

/-- Base opcodes 0x30 to 0x3F (R170, R172). -/
def baseRows3 : List Row :=
  [.d8 .jr_NC_e8, .d16 .ld_SP_d16, .op .ld_atHLdec_A, .op .inc_SP, .op .inc_atHL, .op .dec_atHL,
   .d8 .ld_atHL_d8, .op .scf, .d8 .jr_C_e8, .op .add_HL_SP, .op .ld_A_atHLdec, .op .dec_SP, .op .inc_A,
   .op .dec_A, .d8 .ld_A_d8, .op .ccf]

/-- Base opcodes 0x40 to 0x4F (R170, R172). -/
def baseRows4 : List Row :=
  [.op .ld_B_B, .op .ld_B_C, .op .ld_B_D, .op .ld_B_E, .op .ld_B_H, .op .ld_B_L, .op .ld_B_atHL, .op .ld_B_A,
   .op .ld_C_B, .op .ld_C_C, .op .ld_C_D, .op .ld_C_E, .op .ld_C_H, .op .ld_C_L, .op .ld_C_atHL, .op .ld_C_A]

/-- Base opcodes 0x50 to 0x5F (R170, R172). -/
def baseRows5 : List Row :=
  [.op .ld_D_B, .op .ld_D_C, .op .ld_D_D, .op .ld_D_E, .op .ld_D_H, .op .ld_D_L, .op .ld_D_atHL, .op .ld_D_A,
   .op .ld_E_B, .op .ld_E_C, .op .ld_E_D, .op .ld_E_E, .op .ld_E_H, .op .ld_E_L, .op .ld_E_atHL, .op .ld_E_A]

/-- Base opcodes 0x60 to 0x6F (R170, R172). -/
def baseRows6 : List Row :=
  [.op .ld_H_B, .op .ld_H_C, .op .ld_H_D, .op .ld_H_E, .op .ld_H_H, .op .ld_H_L, .op .ld_H_atHL, .op .ld_H_A,
   .op .ld_L_B, .op .ld_L_C, .op .ld_L_D, .op .ld_L_E, .op .ld_L_H, .op .ld_L_L, .op .ld_L_atHL, .op .ld_L_A]

/-- Base opcodes 0x70 to 0x7F (R170, R172). -/
def baseRows7 : List Row :=
  [.op .ld_atHL_B, .op .ld_atHL_C, .op .ld_atHL_D, .op .ld_atHL_E, .op .ld_atHL_H, .op .ld_atHL_L, .op .halt,
   .op .ld_atHL_A, .op .ld_A_B, .op .ld_A_C, .op .ld_A_D, .op .ld_A_E, .op .ld_A_H, .op .ld_A_L,
   .op .ld_A_atHL, .op .ld_A_A]

/-- Base opcodes 0x80 to 0x8F (R170, R172). -/
def baseRows8 : List Row :=
  [.op .add_A_B, .op .add_A_C, .op .add_A_D, .op .add_A_E, .op .add_A_H, .op .add_A_L, .op .add_A_atHL,
   .op .add_A_A, .op .adc_A_B, .op .adc_A_C, .op .adc_A_D, .op .adc_A_E, .op .adc_A_H, .op .adc_A_L,
   .op .adc_A_atHL, .op .adc_A_A]

/-- Base opcodes 0x90 to 0x9F (R170, R172). -/
def baseRows9 : List Row :=
  [.op .sub_A_B, .op .sub_A_C, .op .sub_A_D, .op .sub_A_E, .op .sub_A_H, .op .sub_A_L, .op .sub_A_atHL,
   .op .sub_A_A, .op .sbc_A_B, .op .sbc_A_C, .op .sbc_A_D, .op .sbc_A_E, .op .sbc_A_H, .op .sbc_A_L,
   .op .sbc_A_atHL, .op .sbc_A_A]

/-- Base opcodes 0xA0 to 0xAF (R170, R172). -/
def baseRowsA : List Row :=
  [.op .and_A_B, .op .and_A_C, .op .and_A_D, .op .and_A_E, .op .and_A_H, .op .and_A_L, .op .and_A_atHL,
   .op .and_A_A, .op .xor_A_B, .op .xor_A_C, .op .xor_A_D, .op .xor_A_E, .op .xor_A_H, .op .xor_A_L,
   .op .xor_A_atHL, .op .xor_A_A]

/-- Base opcodes 0xB0 to 0xBF (R170, R172). -/
def baseRowsB : List Row :=
  [.op .or_A_B, .op .or_A_C, .op .or_A_D, .op .or_A_E, .op .or_A_H, .op .or_A_L, .op .or_A_atHL, .op .or_A_A,
   .op .cp_A_B, .op .cp_A_C, .op .cp_A_D, .op .cp_A_E, .op .cp_A_H, .op .cp_A_L, .op .cp_A_atHL, .op .cp_A_A]

/-- Base opcodes 0xC0 to 0xCF (R170, R172). -/
def baseRowsC : List Row :=
  [.op .ret_NZ, .op .pop_BC, .d16 .jp_NZ_a16, .d16 .jp_a16, .d16 .call_NZ_a16, .op .push_BC, .d8 .add_A_d8,
   .op .rst_00H, .op .ret_Z, .op .ret, .d16 .jp_Z_a16, .cbTable, .d16 .call_Z_a16, .d16 .call_a16,
   .d8 .adc_A_d8, .op .rst_08H]

/-- Base opcodes 0xD0 to 0xDF (R170, R172). -/
def baseRowsD : List Row :=
  [.op .ret_NC, .op .pop_DE, .d16 .jp_NC_a16, .op (.illegal 0xD3), .d16 .call_NC_a16, .op .push_DE,
   .d8 .sub_A_d8, .op .rst_10H, .op .ret_C, .op .reti, .d16 .jp_C_a16, .op (.illegal 0xDB), .d16 .call_C_a16,
   .op (.illegal 0xDD), .d8 .sbc_A_d8, .op .rst_18H]

/-- Base opcodes 0xE0 to 0xEF (R170, R172). -/
def baseRowsE : List Row :=
  [.d8 .ldh_atA8_A, .op .pop_HL, .op .ld_atC_A, .op (.illegal 0xE3), .op (.illegal 0xE4), .op .push_HL,
   .d8 .and_A_d8, .op .rst_20H, .d8 .add_SP_e8, .op .jp_HL, .d16 .ld_atA16_A, .op (.illegal 0xEB),
   .op (.illegal 0xEC), .op (.illegal 0xED), .d8 .xor_A_d8, .op .rst_28H]

/-- Base opcodes 0xF0 to 0xFF (R170, R172). -/
def baseRowsF : List Row :=
  [.d8 .ldh_A_atA8, .op .pop_AF, .op .ld_A_atC, .op .di, .op (.illegal 0xF4), .op .push_AF, .d8 .or_A_d8,
   .op .rst_30H, .d8 .ld_HL_SPe8, .op .ld_SP_HL, .d16 .ld_A_atA16, .op .ei, .op (.illegal 0xFC),
   .op (.illegal 0xFD), .d8 .cp_A_d8, .op .rst_38H]

/-- The base table, indexed by the opcode byte (R170). -/
def baseTable : List Row :=
  baseRows0 ++ baseRows1 ++ baseRows2 ++ baseRows3 ++ baseRows4 ++ baseRows5 ++ baseRows6 ++ baseRows7 ++
  baseRows8 ++ baseRows9 ++ baseRowsA ++ baseRowsB ++ baseRowsC ++ baseRowsD ++ baseRowsE ++ baseRowsF

theorem baseTable_length : baseTable.length = 256 := by
  simp only [baseTable, List.length_append]
  rfl

/-- CB-table entries 0x00 to 0x0F (R171). -/
def cbRows0 : List Instr :=
  [.rlc_B, .rlc_C, .rlc_D, .rlc_E, .rlc_H, .rlc_L, .rlc_atHL, .rlc_A, .rrc_B, .rrc_C, .rrc_D, .rrc_E, .rrc_H,
   .rrc_L, .rrc_atHL, .rrc_A]

/-- CB-table entries 0x10 to 0x1F (R171). -/
def cbRows1 : List Instr :=
  [.rl_B, .rl_C, .rl_D, .rl_E, .rl_H, .rl_L, .rl_atHL, .rl_A, .rr_B, .rr_C, .rr_D, .rr_E, .rr_H, .rr_L,
   .rr_atHL, .rr_A]

/-- CB-table entries 0x20 to 0x2F (R171). -/
def cbRows2 : List Instr :=
  [.sla_B, .sla_C, .sla_D, .sla_E, .sla_H, .sla_L, .sla_atHL, .sla_A, .sra_B, .sra_C, .sra_D, .sra_E, .sra_H,
   .sra_L, .sra_atHL, .sra_A]

/-- CB-table entries 0x30 to 0x3F (R171). -/
def cbRows3 : List Instr :=
  [.swap_B, .swap_C, .swap_D, .swap_E, .swap_H, .swap_L, .swap_atHL, .swap_A, .srl_B, .srl_C, .srl_D, .srl_E,
   .srl_H, .srl_L, .srl_atHL, .srl_A]

/-- CB-table entries 0x40 to 0x4F (R171). -/
def cbRows4 : List Instr :=
  [.bit_0_B, .bit_0_C, .bit_0_D, .bit_0_E, .bit_0_H, .bit_0_L, .bit_0_atHL, .bit_0_A, .bit_1_B, .bit_1_C,
   .bit_1_D, .bit_1_E, .bit_1_H, .bit_1_L, .bit_1_atHL, .bit_1_A]

/-- CB-table entries 0x50 to 0x5F (R171). -/
def cbRows5 : List Instr :=
  [.bit_2_B, .bit_2_C, .bit_2_D, .bit_2_E, .bit_2_H, .bit_2_L, .bit_2_atHL, .bit_2_A, .bit_3_B, .bit_3_C,
   .bit_3_D, .bit_3_E, .bit_3_H, .bit_3_L, .bit_3_atHL, .bit_3_A]

/-- CB-table entries 0x60 to 0x6F (R171). -/
def cbRows6 : List Instr :=
  [.bit_4_B, .bit_4_C, .bit_4_D, .bit_4_E, .bit_4_H, .bit_4_L, .bit_4_atHL, .bit_4_A, .bit_5_B, .bit_5_C,
   .bit_5_D, .bit_5_E, .bit_5_H, .bit_5_L, .bit_5_atHL, .bit_5_A]

/-- CB-table entries 0x70 to 0x7F (R171). -/
def cbRows7 : List Instr :=
  [.bit_6_B, .bit_6_C, .bit_6_D, .bit_6_E, .bit_6_H, .bit_6_L, .bit_6_atHL, .bit_6_A, .bit_7_B, .bit_7_C,
   .bit_7_D, .bit_7_E, .bit_7_H, .bit_7_L, .bit_7_atHL, .bit_7_A]

/-- CB-table entries 0x80 to 0x8F (R171). -/
def cbRows8 : List Instr :=
  [.res_0_B, .res_0_C, .res_0_D, .res_0_E, .res_0_H, .res_0_L, .res_0_atHL, .res_0_A, .res_1_B, .res_1_C,
   .res_1_D, .res_1_E, .res_1_H, .res_1_L, .res_1_atHL, .res_1_A]

/-- CB-table entries 0x90 to 0x9F (R171). -/
def cbRows9 : List Instr :=
  [.res_2_B, .res_2_C, .res_2_D, .res_2_E, .res_2_H, .res_2_L, .res_2_atHL, .res_2_A, .res_3_B, .res_3_C,
   .res_3_D, .res_3_E, .res_3_H, .res_3_L, .res_3_atHL, .res_3_A]

/-- CB-table entries 0xA0 to 0xAF (R171). -/
def cbRowsA : List Instr :=
  [.res_4_B, .res_4_C, .res_4_D, .res_4_E, .res_4_H, .res_4_L, .res_4_atHL, .res_4_A, .res_5_B, .res_5_C,
   .res_5_D, .res_5_E, .res_5_H, .res_5_L, .res_5_atHL, .res_5_A]

/-- CB-table entries 0xB0 to 0xBF (R171). -/
def cbRowsB : List Instr :=
  [.res_6_B, .res_6_C, .res_6_D, .res_6_E, .res_6_H, .res_6_L, .res_6_atHL, .res_6_A, .res_7_B, .res_7_C,
   .res_7_D, .res_7_E, .res_7_H, .res_7_L, .res_7_atHL, .res_7_A]

/-- CB-table entries 0xC0 to 0xCF (R171). -/
def cbRowsC : List Instr :=
  [.set_0_B, .set_0_C, .set_0_D, .set_0_E, .set_0_H, .set_0_L, .set_0_atHL, .set_0_A, .set_1_B, .set_1_C,
   .set_1_D, .set_1_E, .set_1_H, .set_1_L, .set_1_atHL, .set_1_A]

/-- CB-table entries 0xD0 to 0xDF (R171). -/
def cbRowsD : List Instr :=
  [.set_2_B, .set_2_C, .set_2_D, .set_2_E, .set_2_H, .set_2_L, .set_2_atHL, .set_2_A, .set_3_B, .set_3_C,
   .set_3_D, .set_3_E, .set_3_H, .set_3_L, .set_3_atHL, .set_3_A]

/-- CB-table entries 0xE0 to 0xEF (R171). -/
def cbRowsE : List Instr :=
  [.set_4_B, .set_4_C, .set_4_D, .set_4_E, .set_4_H, .set_4_L, .set_4_atHL, .set_4_A, .set_5_B, .set_5_C,
   .set_5_D, .set_5_E, .set_5_H, .set_5_L, .set_5_atHL, .set_5_A]

/-- CB-table entries 0xF0 to 0xFF (R171). -/
def cbRowsF : List Instr :=
  [.set_6_B, .set_6_C, .set_6_D, .set_6_E, .set_6_H, .set_6_L, .set_6_atHL, .set_6_A, .set_7_B, .set_7_C,
   .set_7_D, .set_7_E, .set_7_H, .set_7_L, .set_7_atHL, .set_7_A]

/-- The CB table, indexed by the second byte (R171). -/
def cbTable : List Instr :=
  cbRows0 ++ cbRows1 ++ cbRows2 ++ cbRows3 ++ cbRows4 ++ cbRows5 ++ cbRows6 ++ cbRows7 ++
  cbRows8 ++ cbRows9 ++ cbRowsA ++ cbRowsB ++ cbRowsC ++ cbRowsD ++ cbRowsE ++ cbRowsF

theorem cbTable_length : cbTable.length = 256 := by
  simp only [cbTable, List.length_append]
  rfl

/-- The base-table row of an opcode byte (R162, R170). -/
def baseRow (op : Byte) : Row := baseTable[op.toNat]'(by rw [baseTable_length]; exact op.isLt)

/-- The CB-table instruction of a second byte (R162, R171). -/
def cbInstr (cbop : Byte) : Instr := cbTable[cbop.toNat]'(by rw [cbTable_length]; exact cbop.isLt)

/-- Why a byte list is rejected: it holds no opcode, or ends before the operand bytes its opcode needs. -/
inductive DecodeError
  | noOpcode
  | truncated (op : Byte)
deriving DecidableEq, Repr

/-- What decoding a byte list gives: an instruction and the bytes after it, or a rejection by name. -/
inductive Decoded
  | instr (i : Instr) (rest : List Byte)
  | rejected (e : DecodeError)
deriving DecidableEq, Repr

/-- The decoder (R160, R162, R167). No opcode byte is rejected: the eleven undefined ones decode to `illegal`, and the
byte 0xCB with nothing after it is the PREFIX row, a marker (R176; log entry 11). -/
def decode : List Byte → Decoded
  | [] => .rejected .noOpcode
  | op :: rest =>
    match baseRow op, rest with
    | .op i, rest => .instr i rest
    | .d8 mk, n :: rest => .instr (mk n) rest
    | .d16 mk, lo :: hi :: rest => .instr (mk (joinBytes lo hi)) rest
    | .cbTable, cbop :: rest => .instr (cbInstr cbop) rest
    | .cbTable, [] => .instr .cbPrefix []
    | .d8 _, [] => .rejected (.truncated op)
    | .d16 _, _ => .rejected (.truncated op)

/-- The bytes of an instruction (R160, R167, R170, R171): opcode, then operand bytes, low byte first. -/
def encode : Instr → List Byte
  | .ld_BC_d16 nn => [0x01, loByte nn, hiByte nn]
  | .ld_B_d8 n => [0x06, n]
  | .ld_atA16_SP nn => [0x08, loByte nn, hiByte nn]
  | .ld_C_d8 n => [0x0E, n]
  | .ld_DE_d16 nn => [0x11, loByte nn, hiByte nn]
  | .ld_D_d8 n => [0x16, n]
  | .jr_e8 n => [0x18, n]
  | .ld_E_d8 n => [0x1E, n]
  | .jr_NZ_e8 n => [0x20, n]
  | .ld_HL_d16 nn => [0x21, loByte nn, hiByte nn]
  | .ld_H_d8 n => [0x26, n]
  | .jr_Z_e8 n => [0x28, n]
  | .ld_L_d8 n => [0x2E, n]
  | .jr_NC_e8 n => [0x30, n]
  | .ld_SP_d16 nn => [0x31, loByte nn, hiByte nn]
  | .ld_atHL_d8 n => [0x36, n]
  | .jr_C_e8 n => [0x38, n]
  | .ld_A_d8 n => [0x3E, n]
  | .jp_NZ_a16 nn => [0xC2, loByte nn, hiByte nn]
  | .jp_a16 nn => [0xC3, loByte nn, hiByte nn]
  | .call_NZ_a16 nn => [0xC4, loByte nn, hiByte nn]
  | .add_A_d8 n => [0xC6, n]
  | .jp_Z_a16 nn => [0xCA, loByte nn, hiByte nn]
  | .call_Z_a16 nn => [0xCC, loByte nn, hiByte nn]
  | .call_a16 nn => [0xCD, loByte nn, hiByte nn]
  | .adc_A_d8 n => [0xCE, n]
  | .jp_NC_a16 nn => [0xD2, loByte nn, hiByte nn]
  | .illegal op => [op]
  | .call_NC_a16 nn => [0xD4, loByte nn, hiByte nn]
  | .sub_A_d8 n => [0xD6, n]
  | .jp_C_a16 nn => [0xDA, loByte nn, hiByte nn]
  | .call_C_a16 nn => [0xDC, loByte nn, hiByte nn]
  | .sbc_A_d8 n => [0xDE, n]
  | .ldh_atA8_A n => [0xE0, n]
  | .and_A_d8 n => [0xE6, n]
  | .add_SP_e8 n => [0xE8, n]
  | .ld_atA16_A nn => [0xEA, loByte nn, hiByte nn]
  | .xor_A_d8 n => [0xEE, n]
  | .ldh_A_atA8 n => [0xF0, n]
  | .or_A_d8 n => [0xF6, n]
  | .ld_HL_SPe8 n => [0xF8, n]
  | .ld_A_atA16 nn => [0xFA, loByte nn, hiByte nn]
  | .cp_A_d8 n => [0xFE, n]
  | .nop => [0x00]
  | .ld_atBC_A => [0x02]
  | .inc_BC => [0x03]
  | .inc_B => [0x04]
  | .dec_B => [0x05]
  | .rlca => [0x07]
  | .add_HL_BC => [0x09]
  | .ld_A_atBC => [0x0A]
  | .dec_BC => [0x0B]
  | .inc_C => [0x0C]
  | .dec_C => [0x0D]
  | .rrca => [0x0F]
  | .stop => [0x10]
  | .ld_atDE_A => [0x12]
  | .inc_DE => [0x13]
  | .inc_D => [0x14]
  | .dec_D => [0x15]
  | .rla => [0x17]
  | .add_HL_DE => [0x19]
  | .ld_A_atDE => [0x1A]
  | .dec_DE => [0x1B]
  | .inc_E => [0x1C]
  | .dec_E => [0x1D]
  | .rra => [0x1F]
  | .ld_atHLinc_A => [0x22]
  | .inc_HL => [0x23]
  | .inc_H => [0x24]
  | .dec_H => [0x25]
  | .daa => [0x27]
  | .add_HL_HL => [0x29]
  | .ld_A_atHLinc => [0x2A]
  | .dec_HL => [0x2B]
  | .inc_L => [0x2C]
  | .dec_L => [0x2D]
  | .cpl => [0x2F]
  | .ld_atHLdec_A => [0x32]
  | .inc_SP => [0x33]
  | .inc_atHL => [0x34]
  | .dec_atHL => [0x35]
  | .scf => [0x37]
  | .add_HL_SP => [0x39]
  | .ld_A_atHLdec => [0x3A]
  | .dec_SP => [0x3B]
  | .inc_A => [0x3C]
  | .dec_A => [0x3D]
  | .ccf => [0x3F]
  | .ld_B_B => [0x40]
  | .ld_B_C => [0x41]
  | .ld_B_D => [0x42]
  | .ld_B_E => [0x43]
  | .ld_B_H => [0x44]
  | .ld_B_L => [0x45]
  | .ld_B_atHL => [0x46]
  | .ld_B_A => [0x47]
  | .ld_C_B => [0x48]
  | .ld_C_C => [0x49]
  | .ld_C_D => [0x4A]
  | .ld_C_E => [0x4B]
  | .ld_C_H => [0x4C]
  | .ld_C_L => [0x4D]
  | .ld_C_atHL => [0x4E]
  | .ld_C_A => [0x4F]
  | .ld_D_B => [0x50]
  | .ld_D_C => [0x51]
  | .ld_D_D => [0x52]
  | .ld_D_E => [0x53]
  | .ld_D_H => [0x54]
  | .ld_D_L => [0x55]
  | .ld_D_atHL => [0x56]
  | .ld_D_A => [0x57]
  | .ld_E_B => [0x58]
  | .ld_E_C => [0x59]
  | .ld_E_D => [0x5A]
  | .ld_E_E => [0x5B]
  | .ld_E_H => [0x5C]
  | .ld_E_L => [0x5D]
  | .ld_E_atHL => [0x5E]
  | .ld_E_A => [0x5F]
  | .ld_H_B => [0x60]
  | .ld_H_C => [0x61]
  | .ld_H_D => [0x62]
  | .ld_H_E => [0x63]
  | .ld_H_H => [0x64]
  | .ld_H_L => [0x65]
  | .ld_H_atHL => [0x66]
  | .ld_H_A => [0x67]
  | .ld_L_B => [0x68]
  | .ld_L_C => [0x69]
  | .ld_L_D => [0x6A]
  | .ld_L_E => [0x6B]
  | .ld_L_H => [0x6C]
  | .ld_L_L => [0x6D]
  | .ld_L_atHL => [0x6E]
  | .ld_L_A => [0x6F]
  | .ld_atHL_B => [0x70]
  | .ld_atHL_C => [0x71]
  | .ld_atHL_D => [0x72]
  | .ld_atHL_E => [0x73]
  | .ld_atHL_H => [0x74]
  | .ld_atHL_L => [0x75]
  | .halt => [0x76]
  | .ld_atHL_A => [0x77]
  | .ld_A_B => [0x78]
  | .ld_A_C => [0x79]
  | .ld_A_D => [0x7A]
  | .ld_A_E => [0x7B]
  | .ld_A_H => [0x7C]
  | .ld_A_L => [0x7D]
  | .ld_A_atHL => [0x7E]
  | .ld_A_A => [0x7F]
  | .add_A_B => [0x80]
  | .add_A_C => [0x81]
  | .add_A_D => [0x82]
  | .add_A_E => [0x83]
  | .add_A_H => [0x84]
  | .add_A_L => [0x85]
  | .add_A_atHL => [0x86]
  | .add_A_A => [0x87]
  | .adc_A_B => [0x88]
  | .adc_A_C => [0x89]
  | .adc_A_D => [0x8A]
  | .adc_A_E => [0x8B]
  | .adc_A_H => [0x8C]
  | .adc_A_L => [0x8D]
  | .adc_A_atHL => [0x8E]
  | .adc_A_A => [0x8F]
  | .sub_A_B => [0x90]
  | .sub_A_C => [0x91]
  | .sub_A_D => [0x92]
  | .sub_A_E => [0x93]
  | .sub_A_H => [0x94]
  | .sub_A_L => [0x95]
  | .sub_A_atHL => [0x96]
  | .sub_A_A => [0x97]
  | .sbc_A_B => [0x98]
  | .sbc_A_C => [0x99]
  | .sbc_A_D => [0x9A]
  | .sbc_A_E => [0x9B]
  | .sbc_A_H => [0x9C]
  | .sbc_A_L => [0x9D]
  | .sbc_A_atHL => [0x9E]
  | .sbc_A_A => [0x9F]
  | .and_A_B => [0xA0]
  | .and_A_C => [0xA1]
  | .and_A_D => [0xA2]
  | .and_A_E => [0xA3]
  | .and_A_H => [0xA4]
  | .and_A_L => [0xA5]
  | .and_A_atHL => [0xA6]
  | .and_A_A => [0xA7]
  | .xor_A_B => [0xA8]
  | .xor_A_C => [0xA9]
  | .xor_A_D => [0xAA]
  | .xor_A_E => [0xAB]
  | .xor_A_H => [0xAC]
  | .xor_A_L => [0xAD]
  | .xor_A_atHL => [0xAE]
  | .xor_A_A => [0xAF]
  | .or_A_B => [0xB0]
  | .or_A_C => [0xB1]
  | .or_A_D => [0xB2]
  | .or_A_E => [0xB3]
  | .or_A_H => [0xB4]
  | .or_A_L => [0xB5]
  | .or_A_atHL => [0xB6]
  | .or_A_A => [0xB7]
  | .cp_A_B => [0xB8]
  | .cp_A_C => [0xB9]
  | .cp_A_D => [0xBA]
  | .cp_A_E => [0xBB]
  | .cp_A_H => [0xBC]
  | .cp_A_L => [0xBD]
  | .cp_A_atHL => [0xBE]
  | .cp_A_A => [0xBF]
  | .ret_NZ => [0xC0]
  | .pop_BC => [0xC1]
  | .push_BC => [0xC5]
  | .rst_00H => [0xC7]
  | .ret_Z => [0xC8]
  | .ret => [0xC9]
  | .cbPrefix => [0xCB]
  | .rst_08H => [0xCF]
  | .ret_NC => [0xD0]
  | .pop_DE => [0xD1]
  | .push_DE => [0xD5]
  | .rst_10H => [0xD7]
  | .ret_C => [0xD8]
  | .reti => [0xD9]
  | .rst_18H => [0xDF]
  | .pop_HL => [0xE1]
  | .ld_atC_A => [0xE2]
  | .push_HL => [0xE5]
  | .rst_20H => [0xE7]
  | .jp_HL => [0xE9]
  | .rst_28H => [0xEF]
  | .pop_AF => [0xF1]
  | .ld_A_atC => [0xF2]
  | .di => [0xF3]
  | .push_AF => [0xF5]
  | .rst_30H => [0xF7]
  | .ld_SP_HL => [0xF9]
  | .ei => [0xFB]
  | .rst_38H => [0xFF]
  | .rlc_B => [0xCB, 0x00]
  | .rlc_C => [0xCB, 0x01]
  | .rlc_D => [0xCB, 0x02]
  | .rlc_E => [0xCB, 0x03]
  | .rlc_H => [0xCB, 0x04]
  | .rlc_L => [0xCB, 0x05]
  | .rlc_atHL => [0xCB, 0x06]
  | .rlc_A => [0xCB, 0x07]
  | .rrc_B => [0xCB, 0x08]
  | .rrc_C => [0xCB, 0x09]
  | .rrc_D => [0xCB, 0x0A]
  | .rrc_E => [0xCB, 0x0B]
  | .rrc_H => [0xCB, 0x0C]
  | .rrc_L => [0xCB, 0x0D]
  | .rrc_atHL => [0xCB, 0x0E]
  | .rrc_A => [0xCB, 0x0F]
  | .rl_B => [0xCB, 0x10]
  | .rl_C => [0xCB, 0x11]
  | .rl_D => [0xCB, 0x12]
  | .rl_E => [0xCB, 0x13]
  | .rl_H => [0xCB, 0x14]
  | .rl_L => [0xCB, 0x15]
  | .rl_atHL => [0xCB, 0x16]
  | .rl_A => [0xCB, 0x17]
  | .rr_B => [0xCB, 0x18]
  | .rr_C => [0xCB, 0x19]
  | .rr_D => [0xCB, 0x1A]
  | .rr_E => [0xCB, 0x1B]
  | .rr_H => [0xCB, 0x1C]
  | .rr_L => [0xCB, 0x1D]
  | .rr_atHL => [0xCB, 0x1E]
  | .rr_A => [0xCB, 0x1F]
  | .sla_B => [0xCB, 0x20]
  | .sla_C => [0xCB, 0x21]
  | .sla_D => [0xCB, 0x22]
  | .sla_E => [0xCB, 0x23]
  | .sla_H => [0xCB, 0x24]
  | .sla_L => [0xCB, 0x25]
  | .sla_atHL => [0xCB, 0x26]
  | .sla_A => [0xCB, 0x27]
  | .sra_B => [0xCB, 0x28]
  | .sra_C => [0xCB, 0x29]
  | .sra_D => [0xCB, 0x2A]
  | .sra_E => [0xCB, 0x2B]
  | .sra_H => [0xCB, 0x2C]
  | .sra_L => [0xCB, 0x2D]
  | .sra_atHL => [0xCB, 0x2E]
  | .sra_A => [0xCB, 0x2F]
  | .swap_B => [0xCB, 0x30]
  | .swap_C => [0xCB, 0x31]
  | .swap_D => [0xCB, 0x32]
  | .swap_E => [0xCB, 0x33]
  | .swap_H => [0xCB, 0x34]
  | .swap_L => [0xCB, 0x35]
  | .swap_atHL => [0xCB, 0x36]
  | .swap_A => [0xCB, 0x37]
  | .srl_B => [0xCB, 0x38]
  | .srl_C => [0xCB, 0x39]
  | .srl_D => [0xCB, 0x3A]
  | .srl_E => [0xCB, 0x3B]
  | .srl_H => [0xCB, 0x3C]
  | .srl_L => [0xCB, 0x3D]
  | .srl_atHL => [0xCB, 0x3E]
  | .srl_A => [0xCB, 0x3F]
  | .bit_0_B => [0xCB, 0x40]
  | .bit_0_C => [0xCB, 0x41]
  | .bit_0_D => [0xCB, 0x42]
  | .bit_0_E => [0xCB, 0x43]
  | .bit_0_H => [0xCB, 0x44]
  | .bit_0_L => [0xCB, 0x45]
  | .bit_0_atHL => [0xCB, 0x46]
  | .bit_0_A => [0xCB, 0x47]
  | .bit_1_B => [0xCB, 0x48]
  | .bit_1_C => [0xCB, 0x49]
  | .bit_1_D => [0xCB, 0x4A]
  | .bit_1_E => [0xCB, 0x4B]
  | .bit_1_H => [0xCB, 0x4C]
  | .bit_1_L => [0xCB, 0x4D]
  | .bit_1_atHL => [0xCB, 0x4E]
  | .bit_1_A => [0xCB, 0x4F]
  | .bit_2_B => [0xCB, 0x50]
  | .bit_2_C => [0xCB, 0x51]
  | .bit_2_D => [0xCB, 0x52]
  | .bit_2_E => [0xCB, 0x53]
  | .bit_2_H => [0xCB, 0x54]
  | .bit_2_L => [0xCB, 0x55]
  | .bit_2_atHL => [0xCB, 0x56]
  | .bit_2_A => [0xCB, 0x57]
  | .bit_3_B => [0xCB, 0x58]
  | .bit_3_C => [0xCB, 0x59]
  | .bit_3_D => [0xCB, 0x5A]
  | .bit_3_E => [0xCB, 0x5B]
  | .bit_3_H => [0xCB, 0x5C]
  | .bit_3_L => [0xCB, 0x5D]
  | .bit_3_atHL => [0xCB, 0x5E]
  | .bit_3_A => [0xCB, 0x5F]
  | .bit_4_B => [0xCB, 0x60]
  | .bit_4_C => [0xCB, 0x61]
  | .bit_4_D => [0xCB, 0x62]
  | .bit_4_E => [0xCB, 0x63]
  | .bit_4_H => [0xCB, 0x64]
  | .bit_4_L => [0xCB, 0x65]
  | .bit_4_atHL => [0xCB, 0x66]
  | .bit_4_A => [0xCB, 0x67]
  | .bit_5_B => [0xCB, 0x68]
  | .bit_5_C => [0xCB, 0x69]
  | .bit_5_D => [0xCB, 0x6A]
  | .bit_5_E => [0xCB, 0x6B]
  | .bit_5_H => [0xCB, 0x6C]
  | .bit_5_L => [0xCB, 0x6D]
  | .bit_5_atHL => [0xCB, 0x6E]
  | .bit_5_A => [0xCB, 0x6F]
  | .bit_6_B => [0xCB, 0x70]
  | .bit_6_C => [0xCB, 0x71]
  | .bit_6_D => [0xCB, 0x72]
  | .bit_6_E => [0xCB, 0x73]
  | .bit_6_H => [0xCB, 0x74]
  | .bit_6_L => [0xCB, 0x75]
  | .bit_6_atHL => [0xCB, 0x76]
  | .bit_6_A => [0xCB, 0x77]
  | .bit_7_B => [0xCB, 0x78]
  | .bit_7_C => [0xCB, 0x79]
  | .bit_7_D => [0xCB, 0x7A]
  | .bit_7_E => [0xCB, 0x7B]
  | .bit_7_H => [0xCB, 0x7C]
  | .bit_7_L => [0xCB, 0x7D]
  | .bit_7_atHL => [0xCB, 0x7E]
  | .bit_7_A => [0xCB, 0x7F]
  | .res_0_B => [0xCB, 0x80]
  | .res_0_C => [0xCB, 0x81]
  | .res_0_D => [0xCB, 0x82]
  | .res_0_E => [0xCB, 0x83]
  | .res_0_H => [0xCB, 0x84]
  | .res_0_L => [0xCB, 0x85]
  | .res_0_atHL => [0xCB, 0x86]
  | .res_0_A => [0xCB, 0x87]
  | .res_1_B => [0xCB, 0x88]
  | .res_1_C => [0xCB, 0x89]
  | .res_1_D => [0xCB, 0x8A]
  | .res_1_E => [0xCB, 0x8B]
  | .res_1_H => [0xCB, 0x8C]
  | .res_1_L => [0xCB, 0x8D]
  | .res_1_atHL => [0xCB, 0x8E]
  | .res_1_A => [0xCB, 0x8F]
  | .res_2_B => [0xCB, 0x90]
  | .res_2_C => [0xCB, 0x91]
  | .res_2_D => [0xCB, 0x92]
  | .res_2_E => [0xCB, 0x93]
  | .res_2_H => [0xCB, 0x94]
  | .res_2_L => [0xCB, 0x95]
  | .res_2_atHL => [0xCB, 0x96]
  | .res_2_A => [0xCB, 0x97]
  | .res_3_B => [0xCB, 0x98]
  | .res_3_C => [0xCB, 0x99]
  | .res_3_D => [0xCB, 0x9A]
  | .res_3_E => [0xCB, 0x9B]
  | .res_3_H => [0xCB, 0x9C]
  | .res_3_L => [0xCB, 0x9D]
  | .res_3_atHL => [0xCB, 0x9E]
  | .res_3_A => [0xCB, 0x9F]
  | .res_4_B => [0xCB, 0xA0]
  | .res_4_C => [0xCB, 0xA1]
  | .res_4_D => [0xCB, 0xA2]
  | .res_4_E => [0xCB, 0xA3]
  | .res_4_H => [0xCB, 0xA4]
  | .res_4_L => [0xCB, 0xA5]
  | .res_4_atHL => [0xCB, 0xA6]
  | .res_4_A => [0xCB, 0xA7]
  | .res_5_B => [0xCB, 0xA8]
  | .res_5_C => [0xCB, 0xA9]
  | .res_5_D => [0xCB, 0xAA]
  | .res_5_E => [0xCB, 0xAB]
  | .res_5_H => [0xCB, 0xAC]
  | .res_5_L => [0xCB, 0xAD]
  | .res_5_atHL => [0xCB, 0xAE]
  | .res_5_A => [0xCB, 0xAF]
  | .res_6_B => [0xCB, 0xB0]
  | .res_6_C => [0xCB, 0xB1]
  | .res_6_D => [0xCB, 0xB2]
  | .res_6_E => [0xCB, 0xB3]
  | .res_6_H => [0xCB, 0xB4]
  | .res_6_L => [0xCB, 0xB5]
  | .res_6_atHL => [0xCB, 0xB6]
  | .res_6_A => [0xCB, 0xB7]
  | .res_7_B => [0xCB, 0xB8]
  | .res_7_C => [0xCB, 0xB9]
  | .res_7_D => [0xCB, 0xBA]
  | .res_7_E => [0xCB, 0xBB]
  | .res_7_H => [0xCB, 0xBC]
  | .res_7_L => [0xCB, 0xBD]
  | .res_7_atHL => [0xCB, 0xBE]
  | .res_7_A => [0xCB, 0xBF]
  | .set_0_B => [0xCB, 0xC0]
  | .set_0_C => [0xCB, 0xC1]
  | .set_0_D => [0xCB, 0xC2]
  | .set_0_E => [0xCB, 0xC3]
  | .set_0_H => [0xCB, 0xC4]
  | .set_0_L => [0xCB, 0xC5]
  | .set_0_atHL => [0xCB, 0xC6]
  | .set_0_A => [0xCB, 0xC7]
  | .set_1_B => [0xCB, 0xC8]
  | .set_1_C => [0xCB, 0xC9]
  | .set_1_D => [0xCB, 0xCA]
  | .set_1_E => [0xCB, 0xCB]
  | .set_1_H => [0xCB, 0xCC]
  | .set_1_L => [0xCB, 0xCD]
  | .set_1_atHL => [0xCB, 0xCE]
  | .set_1_A => [0xCB, 0xCF]
  | .set_2_B => [0xCB, 0xD0]
  | .set_2_C => [0xCB, 0xD1]
  | .set_2_D => [0xCB, 0xD2]
  | .set_2_E => [0xCB, 0xD3]
  | .set_2_H => [0xCB, 0xD4]
  | .set_2_L => [0xCB, 0xD5]
  | .set_2_atHL => [0xCB, 0xD6]
  | .set_2_A => [0xCB, 0xD7]
  | .set_3_B => [0xCB, 0xD8]
  | .set_3_C => [0xCB, 0xD9]
  | .set_3_D => [0xCB, 0xDA]
  | .set_3_E => [0xCB, 0xDB]
  | .set_3_H => [0xCB, 0xDC]
  | .set_3_L => [0xCB, 0xDD]
  | .set_3_atHL => [0xCB, 0xDE]
  | .set_3_A => [0xCB, 0xDF]
  | .set_4_B => [0xCB, 0xE0]
  | .set_4_C => [0xCB, 0xE1]
  | .set_4_D => [0xCB, 0xE2]
  | .set_4_E => [0xCB, 0xE3]
  | .set_4_H => [0xCB, 0xE4]
  | .set_4_L => [0xCB, 0xE5]
  | .set_4_atHL => [0xCB, 0xE6]
  | .set_4_A => [0xCB, 0xE7]
  | .set_5_B => [0xCB, 0xE8]
  | .set_5_C => [0xCB, 0xE9]
  | .set_5_D => [0xCB, 0xEA]
  | .set_5_E => [0xCB, 0xEB]
  | .set_5_H => [0xCB, 0xEC]
  | .set_5_L => [0xCB, 0xED]
  | .set_5_atHL => [0xCB, 0xEE]
  | .set_5_A => [0xCB, 0xEF]
  | .set_6_B => [0xCB, 0xF0]
  | .set_6_C => [0xCB, 0xF1]
  | .set_6_D => [0xCB, 0xF2]
  | .set_6_E => [0xCB, 0xF3]
  | .set_6_H => [0xCB, 0xF4]
  | .set_6_L => [0xCB, 0xF5]
  | .set_6_atHL => [0xCB, 0xF6]
  | .set_6_A => [0xCB, 0xF7]
  | .set_7_B => [0xCB, 0xF8]
  | .set_7_C => [0xCB, 0xF9]
  | .set_7_D => [0xCB, 0xFA]
  | .set_7_E => [0xCB, 0xFB]
  | .set_7_H => [0xCB, 0xFC]
  | .set_7_L => [0xCB, 0xFD]
  | .set_7_atHL => [0xCB, 0xFE]
  | .set_7_A => [0xCB, 0xFF]

/-- The number of bytes of the instruction an opcode byte begins (R160). -/
def lengthOfOpcode (op : Byte) : Nat :=
  match baseRow op with
  | .op _ => 1
  | .d8 _ => 2
  | .d16 _ => 3
  | .cbTable => 2

/-- The bytes of a table value `w` of `nbits` bits. A 16-bit value of the table is `byte0:byte1` of a CB row (R176); any
other is taken with the first byte in bits 7 to 0 (log entry 11). -/
def tableBytes (nbits w : Nat) : List Byte :=
  if nbits = 16 ∧ w / 256 % 256 = 0xCB then [0xCB, BitVec.ofNat 8 w]
  else (List.range (nbits / 8)).map fun k => BitVec.ofNat 8 (w / 256 ^ k)

/-- The instruction the decoder reads from a row's bits, the bits above `nbits` being 0: operand bytes of zero follow
where the row's own bytes do not make up an instruction. -/
def decodeTableWord (nbits w : Nat) : Option Instr :=
  match decode (tableBytes nbits w) with
  | .instr i _ => some i
  | .rejected _ =>
    match decode (tableBytes nbits w ++ [0, 0]) with
    | .instr i _ => some i
    | .rejected _ => none

end Sys2Proof
end

