-- ==== Sys2Proof/Machine/Operands.lean ====
section
/-! DEFINITION. The operands of the encodings (spec/30_encoding.md R163 to R167): the register tables, the pairs (spec/10_state.md R21), the conditions, and the one place where registers are read and written (R20 to R23). -/

namespace Sys2Proof.Machine

/-- The registers of the table `r8` (R163), `(HL)` apart. -/
inductive Reg8
  | b
  | c
  | d
  | e
  | h
  | l
  | a
deriving DecidableEq, Repr

/-- The table `r8` (R163). -/
inductive Operand8
  | reg (r : Reg8)
  | atHL
deriving DecidableEq, Repr

/-- The table `r16` (R164). -/
inductive Reg16
  | bc
  | de
  | hl
  | sp
deriving DecidableEq, Repr

/-- The table `r16stk` (R164). -/
inductive StackReg
  | bc
  | de
  | hl
  | af
deriving DecidableEq, Repr

/-- The table `cc` (R165). -/
inductive Cond
  | nz
  | z
  | nc
  | c
deriving DecidableEq, Repr

/-- `r8[i]` (R163). -/
def operand8 (i : BitVec 3) : Operand8 :=
  match i.toNat with
  | 0 => .reg .b
  | 1 => .reg .c
  | 2 => .reg .d
  | 3 => .reg .e
  | 4 => .reg .h
  | 5 => .reg .l
  | 6 => .atHL
  | _ => .reg .a

/-- Read an 8-bit register (R20). -/
def readReg8 (r : Reg8) (s : State) : Byte :=
  match r with
  | .b => s.regs.b
  | .c => s.regs.c
  | .d => s.regs.d
  | .e => s.regs.e
  | .h => s.regs.h
  | .l => s.regs.l
  | .a => s.regs.a

/-- Write an 8-bit register (R20). -/
def writeReg8 (r : Reg8) (v : Byte) (s : State) : State :=
  match r with
  | .b => { s with regs := { s.regs with b := v } }
  | .c => { s with regs := { s.regs with c := v } }
  | .d => { s with regs := { s.regs with d := v } }
  | .e => { s with regs := { s.regs with e := v } }
  | .h => { s with regs := { s.regs with h := v } }
  | .l => { s with regs := { s.regs with l := v } }
  | .a => { s with regs := { s.regs with a := v } }

/-- Read F: its low nibble reads 0 always (R22). -/
def readF (s : State) : Byte := s.regs.f &&& 0xF0

/-- Write F: every write stores `v & 0xF0` (R22). -/
def writeF (v : Byte) (s : State) : State := { s with regs := { s.regs with f := v &&& 0xF0 } }

/-- Read a pair or SP (R21, R26). -/
def readReg16 (r : Reg16) (s : State) : Word :=
  match r with
  | .bc => joinBytes s.regs.c s.regs.b
  | .de => joinBytes s.regs.e s.regs.d
  | .hl => joinBytes s.regs.l s.regs.h
  | .sp => s.sp

/-- Write a pair or SP (R21, R26). -/
def writeReg16 (r : Reg16) (v : Word) (s : State) : State :=
  match r with
  | .bc => { s with regs := { s.regs with b := hiByte v, c := loByte v } }
  | .de => { s with regs := { s.regs with d := hiByte v, e := loByte v } }
  | .hl => { s with regs := { s.regs with h := hiByte v, l := loByte v } }
  | .sp => { s with sp := v }

/-- Read a pair of PUSH (R164, R234). -/
def readStackReg (r : StackReg) (s : State) : Word :=
  match r with
  | .bc => readReg16 .bc s
  | .de => readReg16 .de s
  | .hl => readReg16 .hl s
  | .af => joinBytes (readF s) s.regs.a

/-- Write a pair of POP (R164, R235, R236); F goes through `writeF` (R21). -/
def writeStackReg (r : StackReg) (v : Word) (s : State) : State :=
  match r with
  | .bc => writeReg16 .bc v s
  | .de => writeReg16 .de v s
  | .hl => writeReg16 .hl v s
  | .af => writeF (loByte v) (writeReg8 .a (hiByte v) s)

/-- HL as a memory pointer (R23). -/
def hlAddr (s : State) : Word := readReg16 .hl s

/-- An address of the high page, `0xFF00 + zext(n)` (R167). -/
def highPage (n : Byte) : Word := joinBytes n 0xFF

/-- `sext_8(e)` added to a 16-bit value modulo 2^16 (R10, R167). -/
def addDisplacement (v : Word) (e : Byte) : Word := v + e.signExtend 16

/-- The flags Z, N, H, C are F[7], F[6], F[5], F[4] (R27). -/
def flagZ (s : State) : Bool := s.regs.f.getLsbD 7

/-- F[6] (R27). -/
def flagN (s : State) : Bool := s.regs.f.getLsbD 6

/-- F[5] (R27). -/
def flagH (s : State) : Bool := s.regs.f.getLsbD 5

/-- F[4] (R27). -/
def flagC (s : State) : Bool := s.regs.f.getLsbD 4

/-- Whether a condition holds (R165). -/
def condHolds (cc : Cond) (s : State) : Bool :=
  match cc with
  | .nz => !flagZ s
  | .z => flagZ s
  | .nc => !flagC s
  | .c => flagC s

end Sys2Proof.Machine
end

