-- ==== Sys2Proof/Machine/Flags.lean ====
section
/-! DEFINITION. Every result and flag computation of the instruction set: the eight ALU operations, increment and decrement, DAA, the 16-bit additions (spec/42_alu8.md R250 to R255, R284 to R288; spec/43_alu16.md R302, R303) and the shift functions (spec/44_rotate_shift_bit.md R311 to R313). -/

namespace Sys2Proof.Machine

/-- `Flags(z, n, h, c)` (R10): `none` leaves a flag unchanged. -/
structure FlagWrite where
  z : Option Bool
  n : Option Bool
  h : Option Bool
  c : Option Bool
deriving DecidableEq, Repr

/-- F from its four flags, low nibble 0 (R22, R27). -/
def packFlags (z n h c : Bool) : Byte :=
  BitVec.ofBool z ++ BitVec.ofBool n ++ BitVec.ofBool h ++ BitVec.ofBool c ++ 0#4

/-- Carry out `Flags(z, n, h, c)` (R10). -/
def setFlags (w : FlagWrite) (s : State) : State :=
  writeF (packFlags (w.z.getD (flagZ s)) (w.n.getD (flagN s)) (w.h.getD (flagH s)) (w.c.getD (flagC s))) s

/-- `Flags` with all four given. -/
def allFlags (z n h c : Bool) : FlagWrite := { z := some z, n := some n, h := some h, c := some c }

/-- `alu[y]` (R166). -/
inductive AluOp
  | add
  | adc
  | sub
  | sbc
  | and
  | xor
  | or
  | cp
deriving DecidableEq, Repr

/-- `Add8(a, x, cin)` (R253). -/
def add8 (a x : Byte) (cin : Bool) : Byte × FlagWrite :=
  let sum := a.toNat + x.toNat + cin.toNat
  let r := BitVec.ofNat 8 sum
  let h := a.toNat % 16 + x.toNat % 16 + cin.toNat > 0xF
  (r, allFlags (r == 0) false h (sum > 0xFF))

/-- `Sub8(a, x, cin)` (R254). -/
def sub8 (a x : Byte) (cin : Bool) : Byte × FlagWrite :=
  let r := a - x - BitVec.ofNat 8 cin.toNat
  let h := a.toNat % 16 < x.toNat % 16 + cin.toNat
  (r, allFlags (r == 0) true h (a.toNat < x.toNat + cin.toNat))

/-- `And8`, `Xor8`, `Or8` (R255). -/
def logic8 (r : Byte) (h : Bool) : Byte × FlagWrite := (r, allFlags (r == 0) false h false)

/-- The result and flags of an ALU operation on A, an operand and the old carry (R253 to R255, R260 to R283). CP's
result is that of the subtraction; the instruction does not write it (R281). -/
def alu8 (op : AluOp) (a x : Byte) (c : Bool) : Byte × FlagWrite :=
  match op with
  | .add => add8 a x false
  | .adc => add8 a x c
  | .sub => sub8 a x false
  | .sbc => sub8 a x c
  | .and => logic8 (a &&& x) true
  | .xor => logic8 (a ^^^ x) false
  | .or => logic8 (a ||| x) false
  | .cp => sub8 a x false

/-- `INC`: result, Z, N = 0, H, C unchanged (R284). -/
def inc8 (v : Byte) : Byte × FlagWrite :=
  let r := v + 1
  (r, { z := some (r == 0), n := some false, h := some (v.toNat % 16 == 0xF), c := none })

/-- `DEC`: result, Z, N = 1, H, C unchanged (R286). -/
def dec8 (v : Byte) : Byte × FlagWrite :=
  let r := v - 1
  (r, { z := some (r == 0), n := some true, h := some (v.toNat % 16 == 0x0), c := none })

/-- The decimal adjustment (R288). -/
def daa8 (a : Byte) (n h c : Bool) : Byte × FlagWrite :=
  if n then
    let adj : Byte := (if h then 0x06 else 0) ||| (if c then 0x60 else 0)
    let r := a - adj
    (r, { z := some (r == 0), n := none, h := some false, c := some c })
  else
    let low := h || decide (a.toNat % 16 > 0x09)
    let high := c || decide (a.toNat > 0x99)
    let adj : Byte := (if low then 0x06 else 0) ||| (if high then 0x60 else 0)
    let r := a + adj
    (r, { z := some (r == 0), n := none, h := some false, c := some high })

/-- `ADD HL,rr` (R302): H is the carry out of bit 11, C out of bit 15, Z unchanged. -/
def add16 (hl x : Word) : Word × FlagWrite :=
  (hl + x,
    { z := none, n := some false, h := some (decide (hl.toNat % 0x1000 + x.toNat % 0x1000 > 0xFFF)),
      c := some (decide (hl.toNat + x.toNat > 0xFFFF)) })

/-- `SP + e8` (R233, R303): H and C from the unsigned addition of the low byte of SP and the operand byte. -/
def addSpE8 (sp : Word) (e : Byte) : Word × FlagWrite :=
  (addDisplacement sp e,
    allFlags false false (decide (sp.toNat % 0x10 + e.toNat % 0x10 > 0xF)) (decide (sp.toNat % 0x100 + e.toNat > 0xFF)))

/-- `rot[y]` (R166). -/
inductive RotOp
  | rlc
  | rrc
  | rl
  | rr
  | sla
  | sra
  | swap
  | srl
deriving DecidableEq, Repr

/-- The result and the new carry of a shift or rotate of `v` with old carry `c` (R311 to R313). -/
def rot8 (op : RotOp) (v : Byte) (c : Bool) : Byte × Bool :=
  match op with
  | .rlc => (v.extractLsb' 0 7 ++ v.extractLsb' 7 1, v.getLsbD 7)
  | .rrc => (v.extractLsb' 0 1 ++ v.extractLsb' 1 7, v.getLsbD 0)
  | .rl => (v.extractLsb' 0 7 ++ BitVec.ofBool c, v.getLsbD 7)
  | .rr => (BitVec.ofBool c ++ v.extractLsb' 1 7, v.getLsbD 0)
  | .sla => (v.extractLsb' 0 7 ++ 0#1, v.getLsbD 7)
  | .sra => (v.extractLsb' 7 1 ++ v.extractLsb' 1 7, v.getLsbD 0)
  | .swap => (v.extractLsb' 0 4 ++ v.extractLsb' 4 4, false)
  | .srl => (0#1 ++ v.extractLsb' 1 7, v.getLsbD 0)

/-- The flags of a CB shift or rotate: `Flags(r = 0, 0, 0, c)` (section 3 of spec/44_rotate_shift_bit.md). -/
def rotFlags (r : Byte) (c : Bool) : FlagWrite := allFlags (r == 0) false false c

/-- The mask `1 << b` (R336, R338). -/
def bitMask (b : Nat) : Byte := 1#8 <<< b

/-- The flags of `BIT b,x`: `Flags(v[b] = 0, 0, 1, -)` (R334). -/
def bitTestFlags (b : Nat) (v : Byte) : FlagWrite :=
  { z := some (!v.getLsbD b), n := some false, h := some true, c := none }

end Sys2Proof.Machine
end

