-- ==== Sys2Proof/Machine/Ops.lean ====
section
/-! DEFINITION. The named operations every instruction is written with (spec/00_scope.md R10): cycles, CPU bus accesses, fetches, the stack; and the exceptions: interrupt entry (spec/60_exceptions.md R412), the fatal fault (R404), the return from an interrupt (spec/45_control_transfer.md R361). -/

namespace Sys2Proof.Machine

/-- What a meaning answers. -/
abbrev Result := Host.Outcome State Fault Refusal

/-- `Tick(n)` (R10, R32). -/
def tick (n : Nat) (s : State) : State := { s with stepCycles := s.stepCycles + n }

/-- `MemRead(addr, 1)` (R72): 4 cycles, whatever answers. -/
def memRead (addr : Word) (s : State) : Byte × State := (busRead addr s, tick 4 s)

/-- `MemWrite(addr, 1, v)` (R73): 4 cycles, whatever accepts. -/
def memWrite (addr : Word) (v : Byte) (s : State) : State := busWrite addr v (tick 4 s)

/-- `Fetch8()` (R10, R25). -/
def fetch8 (s : State) : Byte × State :=
  let (v, s1) := memRead s.pc s
  (v, { s1 with pc := s1.pc + 1 })

/-- `Fetch16()` (R10): low byte first. -/
def fetch16 (s : State) : Word × State :=
  let (lo, s1) := fetch8 s
  let (hi, s2) := fetch8 s1
  (joinBytes lo hi, s2)

/-- One byte onto the stack: SP goes down, then the byte is written there (R10, R26). -/
def push8 (v : Byte) (s : State) : State := memWrite (s.sp - 1) v { s with sp := s.sp - 1 }

/-- One byte off the stack: it is read at SP, then SP goes up (R10, R26). -/
def pop8 (s : State) : Byte × State :=
  let (v, s1) := memRead s.sp s
  (v, { s1 with sp := s1.sp + 1 })

/-- `Push16(v)` (R10): high byte at SP-1, low byte at SP-2. -/
def push16 (v : Word) (s : State) : State := push8 (loByte v) (push8 (hiByte v) s)

/-- `Pop16()` (R10): low byte first. -/
def pop16 (s : State) : Word × State :=
  let (lo, s1) := pop8 s
  let (hi, s2) := pop8 s1
  (joinBytes lo hi, s2)

/-- `PC <- target` (R10). -/
def jumpTo (target : Word) (s : State) : State := { s with pc := target }

/-- The interrupt sources, from bit 0 of IF and IE (R406). -/
inductive IntSource
  | vblank
  | stat
  | timer
  | serial
  | joypad
deriving DecidableEq, Repr

/-- The bit of a source in IF and IE (R406). -/
def IntSource.bit : IntSource → Nat
  | .vblank => 0
  | .stat => 1
  | .timer => 2
  | .serial => 3
  | .joypad => 4

/-- The vector of a source, `0x0040 + 8 * i` (R406, R412). -/
def IntSource.vector (i : IntSource) : Word := 0x0040#16 + 8#16 * BitVec.ofNat 16 i.bit

/-- The mask of a source in IF and IE. -/
def IntSource.mask (i : IntSource) : BitVec 5 := 1#5 <<< i.bit

/-- A device sets its bit of IF (R37, R407). -/
def requestInterrupt (i : IntSource) (s : State) : State := { s with ifReg := s.ifReg ||| i.mask }

/-- `EnterInterrupt(i)` (R412): 12 cycles, PC pushed through the CPU bus (8 more), IME and the bit of IF cleared, PC at
the fixed vector. A set `ime_pending` stays or is cleared by the free value `Config.entryKeepsImePending`: R412 keeps it,
R373's corner case and R414 do not (log entry 22). A clear one stays clear. -/
def enterInterrupt (i : IntSource) (s : State) : State :=
  let pushed := push16 s.pc (tick 12 s)
  { pushed with
    ime := false
    imePending := pushed.imePending && Config.entryKeepsImePending
    ifReg := pushed.ifReg &&& ~~~i.mask
    pc := i.vector }

/-- The return from an interrupt handler (R361, R414): `PC <- Pop16(); Tick(4); IME <- 1`, at once. -/
def returnFromInterrupt (s : State) : State :=
  let (target, s1) := pop16 s
  { tick 4 (jumpTo target s1) with ime := true }

/-- The record the fatal fault surfaces (R31, R404). -/
def takeSnapshot (s : State) : Snapshot :=
  { regs := { s.regs with f := readF s }, pc := s.pc, sp := s.sp, cycTotal := s.cycTotal }

/-- `raise IllegalOpcode(op)` (R404): snapshot taken, `fault <- 1`, nothing else. PC is already past the opcode byte. -/
def raiseIllegalOpcode (s : State) : State := { s with snapshot := takeSnapshot s, fault := true }

end Sys2Proof.Machine
end

