-- ==== Sys2Proof/Machine/Alu16.lean ====
section
/-! DEFINITION. The 16-bit arithmetic instructions (spec/43_alu16.md R300 to R303). -/

namespace Sys2Proof.Machine

/-- `rr <- (rr + k) mod 2^16; Tick(4)`, no flag (R300, R301). -/
def stepReg16 (k : Word) (rr : Reg16) (s : State) : State := tick 4 (writeReg16 rr (readReg16 rr s + k) s)

/-- `ADD HL,rr` (R302). -/
def addToHL (rr : Reg16) (s : State) : State :=
  let (v, w) := add16 (hlAddr s) (readReg16 rr s)
  tick 4 (setFlags w (writeReg16 .hl v s))

/-- `ADD SP,e8` (R303). -/
def addToSp (e8 : Byte) (s : State) : State :=
  let (v, w) := addSpE8 s.sp e8
  tick 8 (setFlags w (writeReg16 .sp v s))

/-- `INC BC` (R300). -/
def execInc_BC (s : State) : Result := .next (stepReg16 1 .bc s)

/-- `ADD HL,BC` (R302). -/
def execAdd_HL_BC (s : State) : Result := .next (addToHL .bc s)

/-- `DEC BC` (R301). -/
def execDec_BC (s : State) : Result := .next (stepReg16 (-1) .bc s)

/-- `INC DE` (R300). -/
def execInc_DE (s : State) : Result := .next (stepReg16 1 .de s)

/-- `ADD HL,DE` (R302). -/
def execAdd_HL_DE (s : State) : Result := .next (addToHL .de s)

/-- `DEC DE` (R301). -/
def execDec_DE (s : State) : Result := .next (stepReg16 (-1) .de s)

/-- `INC HL` (R300). -/
def execInc_HL (s : State) : Result := .next (stepReg16 1 .hl s)

/-- `ADD HL,HL` (R302). -/
def execAdd_HL_HL (s : State) : Result := .next (addToHL .hl s)

/-- `DEC HL` (R301). -/
def execDec_HL (s : State) : Result := .next (stepReg16 (-1) .hl s)

/-- `INC SP` (R300). -/
def execInc_SP (s : State) : Result := .next (stepReg16 1 .sp s)

/-- `ADD HL,SP` (R302). -/
def execAdd_HL_SP (s : State) : Result := .next (addToHL .sp s)

/-- `DEC SP` (R301). -/
def execDec_SP (s : State) : Result := .next (stepReg16 (-1) .sp s)

/-- `ADD SP,e8` (R303). -/
def execAdd_SP_e8 (e8 : Byte) (s : State) : Result := .next (addToSp e8 s)

end Sys2Proof.Machine
end

