-- ==== Sys2Proof/Machine/Alu8.lean ====
section
/-! DEFINITION. The 8-bit arithmetic and logic instructions (spec/42_alu8.md R260 to R291), over the functions of Flags.lean. -/

namespace Sys2Proof.Machine

/-- `(A, F) <- op(A, x, C)`; CP leaves A (R260 to R283). -/
def aluWith (op : AluOp) (x : Byte) (s : State) : State :=
  let (r, w) := alu8 op s.regs.a x (flagC s)
  setFlags w (if op = .cp then s else writeReg8 .a r s)

/-- The register form (R252). -/
def aluReg (op : AluOp) (r : Reg8) (s : State) : State := aluWith op (readReg8 r s) s

/-- The memory form (R252). -/
def aluAtHL (op : AluOp) (s : State) : State :=
  let (x, s1) := memRead (hlAddr s) s
  aluWith op x s1

/-- The immediate form (R252). -/
def aluImm (op : AluOp) (d8 : Byte) (s : State) : State := aluWith op d8 s

/-- `INC r`, `DEC r` (R284, R286). -/
def modifyReg (f : Byte → Byte × FlagWrite) (r : Reg8) (s : State) : State :=
  let (v, w) := f (readReg8 r s)
  setFlags w (writeReg8 r v s)

/-- `INC (HL)`, `DEC (HL)` (R285, R287): one read, then one write of the same address. -/
def modifyAtHL (f : Byte → Byte × FlagWrite) (s : State) : State :=
  let (x, s1) := memRead (hlAddr s) s
  let (v, w) := f x
  setFlags w (memWrite (hlAddr s1) v s1)

/-- `DAA` (R288). -/
def decimalAdjust (s : State) : State :=
  let (v, w) := daa8 s.regs.a (flagN s) (flagH s) (flagC s)
  setFlags w (writeReg8 .a v s)

/-- `CPL`: `A <- A ^ 0xFF; Flags(-, 1, 1, -)` (R289). -/
def complementA (s : State) : State :=
  setFlags { z := none, n := some true, h := some true, c := none } (writeReg8 .a (s.regs.a ^^^ 0xFF) s)

/-- `SCF`: `Flags(-, 0, 0, 1)` (R290). -/
def setCarry (s : State) : State := setFlags { z := none, n := some false, h := some false, c := some true } s

/-- `CCF`: `Flags(-, 0, 0, not C)` (R291). -/
def complementCarry (s : State) : State :=
  setFlags { z := none, n := some false, h := some false, c := some (!flagC s) } s

/-- `INC B` (R284). -/
def execInc_B (s : State) : Result := .next (modifyReg inc8 .b s)

/-- `DEC B` (R286). -/
def execDec_B (s : State) : Result := .next (modifyReg dec8 .b s)

/-- `INC C` (R284). -/
def execInc_C (s : State) : Result := .next (modifyReg inc8 .c s)

/-- `DEC C` (R286). -/
def execDec_C (s : State) : Result := .next (modifyReg dec8 .c s)

/-- `INC D` (R284). -/
def execInc_D (s : State) : Result := .next (modifyReg inc8 .d s)

/-- `DEC D` (R286). -/
def execDec_D (s : State) : Result := .next (modifyReg dec8 .d s)

/-- `INC E` (R284). -/
def execInc_E (s : State) : Result := .next (modifyReg inc8 .e s)

/-- `DEC E` (R286). -/
def execDec_E (s : State) : Result := .next (modifyReg dec8 .e s)

/-- `INC H` (R284). -/
def execInc_H (s : State) : Result := .next (modifyReg inc8 .h s)

/-- `DEC H` (R286). -/
def execDec_H (s : State) : Result := .next (modifyReg dec8 .h s)

/-- `DAA` (R288). -/
def execDaa (s : State) : Result := .next (decimalAdjust s)

/-- `INC L` (R284). -/
def execInc_L (s : State) : Result := .next (modifyReg inc8 .l s)

/-- `DEC L` (R286). -/
def execDec_L (s : State) : Result := .next (modifyReg dec8 .l s)

/-- `CPL` (R289). -/
def execCpl (s : State) : Result := .next (complementA s)

/-- `INC (HL)` (R285). -/
def execInc_atHL (s : State) : Result := .next (modifyAtHL inc8 s)

/-- `DEC (HL)` (R287). -/
def execDec_atHL (s : State) : Result := .next (modifyAtHL dec8 s)

/-- `SCF` (R290). -/
def execScf (s : State) : Result := .next (setCarry s)

/-- `INC A` (R284). -/
def execInc_A (s : State) : Result := .next (modifyReg inc8 .a s)

/-- `DEC A` (R286). -/
def execDec_A (s : State) : Result := .next (modifyReg dec8 .a s)

/-- `CCF` (R291). -/
def execCcf (s : State) : Result := .next (complementCarry s)

/-- `ADD A,B` (R260). -/
def execAdd_A_B (s : State) : Result := .next (aluReg .add .b s)

/-- `ADD A,C` (R260). -/
def execAdd_A_C (s : State) : Result := .next (aluReg .add .c s)

/-- `ADD A,D` (R260). -/
def execAdd_A_D (s : State) : Result := .next (aluReg .add .d s)

/-- `ADD A,E` (R260). -/
def execAdd_A_E (s : State) : Result := .next (aluReg .add .e s)

/-- `ADD A,H` (R260). -/
def execAdd_A_H (s : State) : Result := .next (aluReg .add .h s)

/-- `ADD A,L` (R260). -/
def execAdd_A_L (s : State) : Result := .next (aluReg .add .l s)

/-- `ADD A,(HL)` (R261). -/
def execAdd_A_atHL (s : State) : Result := .next (aluAtHL .add s)

/-- `ADD A,A` (R260). -/
def execAdd_A_A (s : State) : Result := .next (aluReg .add .a s)

/-- `ADC A,B` (R263). -/
def execAdc_A_B (s : State) : Result := .next (aluReg .adc .b s)

/-- `ADC A,C` (R263). -/
def execAdc_A_C (s : State) : Result := .next (aluReg .adc .c s)

/-- `ADC A,D` (R263). -/
def execAdc_A_D (s : State) : Result := .next (aluReg .adc .d s)

/-- `ADC A,E` (R263). -/
def execAdc_A_E (s : State) : Result := .next (aluReg .adc .e s)

/-- `ADC A,H` (R263). -/
def execAdc_A_H (s : State) : Result := .next (aluReg .adc .h s)

/-- `ADC A,L` (R263). -/
def execAdc_A_L (s : State) : Result := .next (aluReg .adc .l s)

/-- `ADC A,(HL)` (R264). -/
def execAdc_A_atHL (s : State) : Result := .next (aluAtHL .adc s)

/-- `ADC A,A` (R263). -/
def execAdc_A_A (s : State) : Result := .next (aluReg .adc .a s)

/-- `SUB A,B` (R266). -/
def execSub_A_B (s : State) : Result := .next (aluReg .sub .b s)

/-- `SUB A,C` (R266). -/
def execSub_A_C (s : State) : Result := .next (aluReg .sub .c s)

/-- `SUB A,D` (R266). -/
def execSub_A_D (s : State) : Result := .next (aluReg .sub .d s)

/-- `SUB A,E` (R266). -/
def execSub_A_E (s : State) : Result := .next (aluReg .sub .e s)

/-- `SUB A,H` (R266). -/
def execSub_A_H (s : State) : Result := .next (aluReg .sub .h s)

/-- `SUB A,L` (R266). -/
def execSub_A_L (s : State) : Result := .next (aluReg .sub .l s)

/-- `SUB A,(HL)` (R267). -/
def execSub_A_atHL (s : State) : Result := .next (aluAtHL .sub s)

/-- `SUB A,A` (R266). -/
def execSub_A_A (s : State) : Result := .next (aluReg .sub .a s)

/-- `SBC A,B` (R269). -/
def execSbc_A_B (s : State) : Result := .next (aluReg .sbc .b s)

/-- `SBC A,C` (R269). -/
def execSbc_A_C (s : State) : Result := .next (aluReg .sbc .c s)

/-- `SBC A,D` (R269). -/
def execSbc_A_D (s : State) : Result := .next (aluReg .sbc .d s)

/-- `SBC A,E` (R269). -/
def execSbc_A_E (s : State) : Result := .next (aluReg .sbc .e s)

/-- `SBC A,H` (R269). -/
def execSbc_A_H (s : State) : Result := .next (aluReg .sbc .h s)

/-- `SBC A,L` (R269). -/
def execSbc_A_L (s : State) : Result := .next (aluReg .sbc .l s)

/-- `SBC A,(HL)` (R270). -/
def execSbc_A_atHL (s : State) : Result := .next (aluAtHL .sbc s)

/-- `SBC A,A` (R269). -/
def execSbc_A_A (s : State) : Result := .next (aluReg .sbc .a s)

/-- `AND A,B` (R272). -/
def execAnd_A_B (s : State) : Result := .next (aluReg .and .b s)

/-- `AND A,C` (R272). -/
def execAnd_A_C (s : State) : Result := .next (aluReg .and .c s)

/-- `AND A,D` (R272). -/
def execAnd_A_D (s : State) : Result := .next (aluReg .and .d s)

/-- `AND A,E` (R272). -/
def execAnd_A_E (s : State) : Result := .next (aluReg .and .e s)

/-- `AND A,H` (R272). -/
def execAnd_A_H (s : State) : Result := .next (aluReg .and .h s)

/-- `AND A,L` (R272). -/
def execAnd_A_L (s : State) : Result := .next (aluReg .and .l s)

/-- `AND A,(HL)` (R273). -/
def execAnd_A_atHL (s : State) : Result := .next (aluAtHL .and s)

/-- `AND A,A` (R272). -/
def execAnd_A_A (s : State) : Result := .next (aluReg .and .a s)

/-- `XOR A,B` (R275). -/
def execXor_A_B (s : State) : Result := .next (aluReg .xor .b s)

/-- `XOR A,C` (R275). -/
def execXor_A_C (s : State) : Result := .next (aluReg .xor .c s)

/-- `XOR A,D` (R275). -/
def execXor_A_D (s : State) : Result := .next (aluReg .xor .d s)

/-- `XOR A,E` (R275). -/
def execXor_A_E (s : State) : Result := .next (aluReg .xor .e s)

/-- `XOR A,H` (R275). -/
def execXor_A_H (s : State) : Result := .next (aluReg .xor .h s)

/-- `XOR A,L` (R275). -/
def execXor_A_L (s : State) : Result := .next (aluReg .xor .l s)

/-- `XOR A,(HL)` (R276). -/
def execXor_A_atHL (s : State) : Result := .next (aluAtHL .xor s)

/-- `XOR A,A` (R275). -/
def execXor_A_A (s : State) : Result := .next (aluReg .xor .a s)

/-- `OR A,B` (R278). -/
def execOr_A_B (s : State) : Result := .next (aluReg .or .b s)

/-- `OR A,C` (R278). -/
def execOr_A_C (s : State) : Result := .next (aluReg .or .c s)

/-- `OR A,D` (R278). -/
def execOr_A_D (s : State) : Result := .next (aluReg .or .d s)

/-- `OR A,E` (R278). -/
def execOr_A_E (s : State) : Result := .next (aluReg .or .e s)

/-- `OR A,H` (R278). -/
def execOr_A_H (s : State) : Result := .next (aluReg .or .h s)

/-- `OR A,L` (R278). -/
def execOr_A_L (s : State) : Result := .next (aluReg .or .l s)

/-- `OR A,(HL)` (R279). -/
def execOr_A_atHL (s : State) : Result := .next (aluAtHL .or s)

/-- `OR A,A` (R278). -/
def execOr_A_A (s : State) : Result := .next (aluReg .or .a s)

/-- `CP A,B` (R281). -/
def execCp_A_B (s : State) : Result := .next (aluReg .cp .b s)

/-- `CP A,C` (R281). -/
def execCp_A_C (s : State) : Result := .next (aluReg .cp .c s)

/-- `CP A,D` (R281). -/
def execCp_A_D (s : State) : Result := .next (aluReg .cp .d s)

/-- `CP A,E` (R281). -/
def execCp_A_E (s : State) : Result := .next (aluReg .cp .e s)

/-- `CP A,H` (R281). -/
def execCp_A_H (s : State) : Result := .next (aluReg .cp .h s)

/-- `CP A,L` (R281). -/
def execCp_A_L (s : State) : Result := .next (aluReg .cp .l s)

/-- `CP A,(HL)` (R282). -/
def execCp_A_atHL (s : State) : Result := .next (aluAtHL .cp s)

/-- `CP A,A` (R281). -/
def execCp_A_A (s : State) : Result := .next (aluReg .cp .a s)

/-- `ADD A,d8` (R262). -/
def execAdd_A_d8 (d8 : Byte) (s : State) : Result := .next (aluImm .add d8 s)

/-- `ADC A,d8` (R265). -/
def execAdc_A_d8 (d8 : Byte) (s : State) : Result := .next (aluImm .adc d8 s)

/-- `SUB A,d8` (R268). -/
def execSub_A_d8 (d8 : Byte) (s : State) : Result := .next (aluImm .sub d8 s)

/-- `SBC A,d8` (R271). -/
def execSbc_A_d8 (d8 : Byte) (s : State) : Result := .next (aluImm .sbc d8 s)

/-- `AND A,d8` (R274). -/
def execAnd_A_d8 (d8 : Byte) (s : State) : Result := .next (aluImm .and d8 s)

/-- `XOR A,d8` (R277). -/
def execXor_A_d8 (d8 : Byte) (s : State) : Result := .next (aluImm .xor d8 s)

/-- `OR A,d8` (R280). -/
def execOr_A_d8 (d8 : Byte) (s : State) : Result := .next (aluImm .or d8 s)

/-- `CP A,d8` (R283). -/
def execCp_A_d8 (d8 : Byte) (s : State) : Result := .next (aluImm .cp d8 s)

end Sys2Proof.Machine
end

