-- ==== Sys2Proof/Machine/Control.lean ====
section
/-! DEFINITION. The control transfers (spec/45_control_transfer.md R350 to R361). PC is the address after the instruction when a meaning runs (R350, spec/10_state.md R25). No flag is written. -/

namespace Sys2Proof.Machine

/-- `PC <- a; Tick(4)` (R351). -/
def jumpAbs (a16 : Word) (s : State) : State := tick 4 (jumpTo a16 s)

/-- `if cc: PC <- a; Tick(4)` (R352). -/
def jumpAbsIf (cc : Cond) (a16 : Word) (s : State) : State := if condHolds cc s then jumpAbs a16 s else s

/-- `PC <- (PC + sext_8(e)) mod 2^16; Tick(4)` (R354). -/
def jumpRel (e8 : Byte) (s : State) : State := tick 4 (jumpTo (addDisplacement s.pc e8) s)

/-- `if cc:` the relative jump (R355). -/
def jumpRelIf (cc : Cond) (e8 : Byte) (s : State) : State := if condHolds cc s then jumpRel e8 s else s

/-- `Tick(4); Push16(PC); PC <- a` (R356, R360). -/
def callAbs (a16 : Word) (s : State) : State := jumpTo a16 (push16 s.pc (tick 4 s))

/-- `if cc:` the call; nothing is pushed when not taken (R357). -/
def callAbsIf (cc : Cond) (a16 : Word) (s : State) : State := if condHolds cc s then callAbs a16 s else s

/-- `PC <- Pop16(); Tick(4)` (R358). -/
def returnSub (s : State) : State :=
  let (target, s1) := pop16 s
  tick 4 (jumpTo target s1)

/-- `Tick(4); if cc: PC <- Pop16(); Tick(4)` (R359). -/
def returnSubIf (cc : Cond) (s : State) : State :=
  if condHolds cc s then returnSub (tick 4 s) else tick 4 s

/-- `JR e8` (R354). -/
def execJr_e8 (e8 : Byte) (s : State) : Result := .next (jumpRel e8 s)

/-- `JR NZ,e8` (R355). -/
def execJr_NZ_e8 (e8 : Byte) (s : State) : Result := .next (jumpRelIf .nz e8 s)

/-- `JR Z,e8` (R355). -/
def execJr_Z_e8 (e8 : Byte) (s : State) : Result := .next (jumpRelIf .z e8 s)

/-- `JR NC,e8` (R355). -/
def execJr_NC_e8 (e8 : Byte) (s : State) : Result := .next (jumpRelIf .nc e8 s)

/-- `JR C,e8` (R355). -/
def execJr_C_e8 (e8 : Byte) (s : State) : Result := .next (jumpRelIf .c e8 s)

/-- `RET NZ` (R359). -/
def execRet_NZ (s : State) : Result := .next (returnSubIf .nz s)

/-- `JP NZ,a16` (R352). -/
def execJp_NZ_a16 (a16 : Word) (s : State) : Result := .next (jumpAbsIf .nz a16 s)

/-- `JP a16` (R351). -/
def execJp_a16 (a16 : Word) (s : State) : Result := .next (jumpAbs a16 s)

/-- `CALL NZ,a16` (R357). -/
def execCall_NZ_a16 (a16 : Word) (s : State) : Result := .next (callAbsIf .nz a16 s)

/-- `RST 00H` (R360). -/
def execRst_00H (s : State) : Result := .next (callAbs 0x0000 s)

/-- `RET Z` (R359). -/
def execRet_Z (s : State) : Result := .next (returnSubIf .z s)

/-- `RET` (R358). -/
def execRet (s : State) : Result := .next (returnSub s)

/-- `JP Z,a16` (R352). -/
def execJp_Z_a16 (a16 : Word) (s : State) : Result := .next (jumpAbsIf .z a16 s)

/-- `CALL Z,a16` (R357). -/
def execCall_Z_a16 (a16 : Word) (s : State) : Result := .next (callAbsIf .z a16 s)

/-- `CALL a16` (R356). -/
def execCall_a16 (a16 : Word) (s : State) : Result := .next (callAbs a16 s)

/-- `RST 08H` (R360). -/
def execRst_08H (s : State) : Result := .next (callAbs 0x0008 s)

/-- `RET NC` (R359). -/
def execRet_NC (s : State) : Result := .next (returnSubIf .nc s)

/-- `JP NC,a16` (R352). -/
def execJp_NC_a16 (a16 : Word) (s : State) : Result := .next (jumpAbsIf .nc a16 s)

/-- `CALL NC,a16` (R357). -/
def execCall_NC_a16 (a16 : Word) (s : State) : Result := .next (callAbsIf .nc a16 s)

/-- `RST 10H` (R360). -/
def execRst_10H (s : State) : Result := .next (callAbs 0x0010 s)

/-- `RET C` (R359). -/
def execRet_C (s : State) : Result := .next (returnSubIf .c s)

/-- `RETI` (R361). -/
def execReti (s : State) : Result := .next (returnFromInterrupt s)

/-- `JP C,a16` (R352). -/
def execJp_C_a16 (a16 : Word) (s : State) : Result := .next (jumpAbsIf .c a16 s)

/-- `CALL C,a16` (R357). -/
def execCall_C_a16 (a16 : Word) (s : State) : Result := .next (callAbsIf .c a16 s)

/-- `RST 18H` (R360). -/
def execRst_18H (s : State) : Result := .next (callAbs 0x0018 s)

/-- `RST 20H` (R360). -/
def execRst_20H (s : State) : Result := .next (callAbs 0x0020 s)

/-- `JP HL` (R353). -/
def execJp_HL (s : State) : Result := .next (jumpTo (hlAddr s) s)

/-- `RST 28H` (R360). -/
def execRst_28H (s : State) : Result := .next (callAbs 0x0028 s)

/-- `RST 30H` (R360). -/
def execRst_30H (s : State) : Result := .next (callAbs 0x0030 s)

/-- `RST 38H` (R360). -/
def execRst_38H (s : State) : Result := .next (callAbs 0x0038 s)

end Sys2Proof.Machine
end

