-- ==== Sys2Proof/Machine/Load16.lean ====
section
/-! DEFINITION. The 16-bit loads and the stack instructions (spec/41_load16_stack.md R230 to R236). -/

namespace Sys2Proof.Machine

/-- `rr <- d16` (R230). -/
def loadReg16Imm (rr : Reg16) (d16 : Word) (s : State) : State := writeReg16 rr d16 s

/-- `LD (a16),SP` (R231): low byte at a16, high byte at a16 + 1. -/
def storeSpAt (a16 : Word) (s : State) : State := memWrite (a16 + 1) (hiByte s.sp) (memWrite a16 (loByte s.sp) s)

/-- `SP <- HL; Tick(4)` (R232). -/
def loadSpHL (s : State) : State := tick 4 (writeReg16 .sp (hlAddr s) s)

/-- `LD HL,SP+e8` (R233). -/
def loadHLSpE8 (e8 : Byte) (s : State) : State :=
  let (v, w) := addSpE8 s.sp e8
  tick 4 (setFlags w (writeReg16 .hl v s))

/-- `Tick(4); Push16(rr)` (R234). -/
def pushReg (rr : StackReg) (s : State) : State := push16 (readStackReg rr s) (tick 4 s)

/-- `rr <- Pop16()` (R235, R236). -/
def popReg (rr : StackReg) (s : State) : State :=
  let (v, s1) := pop16 s
  writeStackReg rr v s1

/-- `LD BC,d16` (R230). -/
def execLd_BC_d16 (d16 : Word) (s : State) : Result := .next (loadReg16Imm .bc d16 s)

/-- `LD (a16),SP` (R231). -/
def execLd_atA16_SP (a16 : Word) (s : State) : Result := .next (storeSpAt a16 s)

/-- `LD DE,d16` (R230). -/
def execLd_DE_d16 (d16 : Word) (s : State) : Result := .next (loadReg16Imm .de d16 s)

/-- `LD HL,d16` (R230). -/
def execLd_HL_d16 (d16 : Word) (s : State) : Result := .next (loadReg16Imm .hl d16 s)

/-- `LD SP,d16` (R230). -/
def execLd_SP_d16 (d16 : Word) (s : State) : Result := .next (loadReg16Imm .sp d16 s)

/-- `POP BC` (R235). -/
def execPop_BC (s : State) : Result := .next (popReg .bc s)

/-- `PUSH BC` (R234). -/
def execPush_BC (s : State) : Result := .next (pushReg .bc s)

/-- `POP DE` (R235). -/
def execPop_DE (s : State) : Result := .next (popReg .de s)

/-- `PUSH DE` (R234). -/
def execPush_DE (s : State) : Result := .next (pushReg .de s)

/-- `POP HL` (R235). -/
def execPop_HL (s : State) : Result := .next (popReg .hl s)

/-- `PUSH HL` (R234). -/
def execPush_HL (s : State) : Result := .next (pushReg .hl s)

/-- `POP AF` (R236). -/
def execPop_AF (s : State) : Result := .next (popReg .af s)

/-- `PUSH AF` (R234). -/
def execPush_AF (s : State) : Result := .next (pushReg .af s)

/-- `LD HL,SP+e8` (R233). -/
def execLd_HL_SPe8 (e8 : Byte) (s : State) : Result := .next (loadHLSpE8 e8 s)

/-- `LD SP,HL` (R232). -/
def execLd_SP_HL (s : State) : Result := .next (loadSpHL s)

end Sys2Proof.Machine
end

