-- ==== Sys2Proof/Machine/Load8.lean ====
section
/-! DEFINITION. The 8-bit loads (spec/40_load8.md R200 to R219). No flag is written, nothing faults (R200). An operand byte or address is already fetched and counted when a meaning runs (log entry 13). -/

namespace Sys2Proof.Machine

/-- `rd <- rs` (R201). -/
def loadRegReg (rd rs : Reg8) (s : State) : State := writeReg8 rd (readReg8 rs s) s

/-- `rd <- d8` (R202). -/
def loadRegImm (rd : Reg8) (d8 : Byte) (s : State) : State := writeReg8 rd d8 s

/-- `rd <- MemRead(addr,1)` (R203, R206, R207, R210, R212, R214). -/
def loadRegAt (rd : Reg8) (addr : Word) (s : State) : State :=
  let (v, s1) := memRead addr s
  writeReg8 rd v s1

/-- `MemWrite(addr,1,v)` (R204, R205, R208, R209, R211, R213, R215). -/
def storeAt (addr : Word) (v : Byte) (s : State) : State := memWrite addr v s

/-- `HL <- (HL + k) mod 2^16`, the step of the `(HL+)` and `(HL-)` forms (R216 to R219). -/
def stepHL (k : Word) (s : State) : State := writeReg16 .hl (hlAddr s + k) s

/-- `LD (BC),A` (R208). -/
def execLd_atBC_A (s : State) : Result := .next (storeAt (readReg16 .bc s) s.regs.a s)

/-- `LD B,d8` (R202). -/
def execLd_B_d8 (d8 : Byte) (s : State) : Result := .next (loadRegImm .b d8 s)

/-- `LD A,(BC)` (R206). -/
def execLd_A_atBC (s : State) : Result := .next (loadRegAt .a (readReg16 .bc s) s)

/-- `LD C,d8` (R202). -/
def execLd_C_d8 (d8 : Byte) (s : State) : Result := .next (loadRegImm .c d8 s)

/-- `LD (DE),A` (R209). -/
def execLd_atDE_A (s : State) : Result := .next (storeAt (readReg16 .de s) s.regs.a s)

/-- `LD D,d8` (R202). -/
def execLd_D_d8 (d8 : Byte) (s : State) : Result := .next (loadRegImm .d d8 s)

/-- `LD A,(DE)` (R207). -/
def execLd_A_atDE (s : State) : Result := .next (loadRegAt .a (readReg16 .de s) s)

/-- `LD E,d8` (R202). -/
def execLd_E_d8 (d8 : Byte) (s : State) : Result := .next (loadRegImm .e d8 s)

/-- `LD (HL+),A` (R216). -/
def execLd_atHLinc_A (s : State) : Result := .next (stepHL 1 (storeAt (hlAddr s) s.regs.a s))

/-- `LD H,d8` (R202). -/
def execLd_H_d8 (d8 : Byte) (s : State) : Result := .next (loadRegImm .h d8 s)

/-- `LD A,(HL+)` (R217). -/
def execLd_A_atHLinc (s : State) : Result := .next (stepHL 1 (loadRegAt .a (hlAddr s) s))

/-- `LD L,d8` (R202). -/
def execLd_L_d8 (d8 : Byte) (s : State) : Result := .next (loadRegImm .l d8 s)

/-- `LD (HL-),A` (R218). -/
def execLd_atHLdec_A (s : State) : Result := .next (stepHL (-1) (storeAt (hlAddr s) s.regs.a s))

/-- `LD (HL),d8` (R205). -/
def execLd_atHL_d8 (d8 : Byte) (s : State) : Result := .next (storeAt (hlAddr s) d8 s)

/-- `LD A,(HL-)` (R219). -/
def execLd_A_atHLdec (s : State) : Result := .next (stepHL (-1) (loadRegAt .a (hlAddr s) s))

/-- `LD A,d8` (R202). -/
def execLd_A_d8 (d8 : Byte) (s : State) : Result := .next (loadRegImm .a d8 s)

/-- `LD B,B` (R201). -/
def execLd_B_B (s : State) : Result := .next (loadRegReg .b .b s)

/-- `LD B,C` (R201). -/
def execLd_B_C (s : State) : Result := .next (loadRegReg .b .c s)

/-- `LD B,D` (R201). -/
def execLd_B_D (s : State) : Result := .next (loadRegReg .b .d s)

/-- `LD B,E` (R201). -/
def execLd_B_E (s : State) : Result := .next (loadRegReg .b .e s)

/-- `LD B,H` (R201). -/
def execLd_B_H (s : State) : Result := .next (loadRegReg .b .h s)

/-- `LD B,L` (R201). -/
def execLd_B_L (s : State) : Result := .next (loadRegReg .b .l s)

/-- `LD B,(HL)` (R203). -/
def execLd_B_atHL (s : State) : Result := .next (loadRegAt .b (hlAddr s) s)

/-- `LD B,A` (R201). -/
def execLd_B_A (s : State) : Result := .next (loadRegReg .b .a s)

/-- `LD C,B` (R201). -/
def execLd_C_B (s : State) : Result := .next (loadRegReg .c .b s)

/-- `LD C,C` (R201). -/
def execLd_C_C (s : State) : Result := .next (loadRegReg .c .c s)

/-- `LD C,D` (R201). -/
def execLd_C_D (s : State) : Result := .next (loadRegReg .c .d s)

/-- `LD C,E` (R201). -/
def execLd_C_E (s : State) : Result := .next (loadRegReg .c .e s)

/-- `LD C,H` (R201). -/
def execLd_C_H (s : State) : Result := .next (loadRegReg .c .h s)

/-- `LD C,L` (R201). -/
def execLd_C_L (s : State) : Result := .next (loadRegReg .c .l s)

/-- `LD C,(HL)` (R203). -/
def execLd_C_atHL (s : State) : Result := .next (loadRegAt .c (hlAddr s) s)

/-- `LD C,A` (R201). -/
def execLd_C_A (s : State) : Result := .next (loadRegReg .c .a s)

/-- `LD D,B` (R201). -/
def execLd_D_B (s : State) : Result := .next (loadRegReg .d .b s)

/-- `LD D,C` (R201). -/
def execLd_D_C (s : State) : Result := .next (loadRegReg .d .c s)

/-- `LD D,D` (R201). -/
def execLd_D_D (s : State) : Result := .next (loadRegReg .d .d s)

/-- `LD D,E` (R201). -/
def execLd_D_E (s : State) : Result := .next (loadRegReg .d .e s)

/-- `LD D,H` (R201). -/
def execLd_D_H (s : State) : Result := .next (loadRegReg .d .h s)

/-- `LD D,L` (R201). -/
def execLd_D_L (s : State) : Result := .next (loadRegReg .d .l s)

/-- `LD D,(HL)` (R203). -/
def execLd_D_atHL (s : State) : Result := .next (loadRegAt .d (hlAddr s) s)

/-- `LD D,A` (R201). -/
def execLd_D_A (s : State) : Result := .next (loadRegReg .d .a s)

/-- `LD E,B` (R201). -/
def execLd_E_B (s : State) : Result := .next (loadRegReg .e .b s)

/-- `LD E,C` (R201). -/
def execLd_E_C (s : State) : Result := .next (loadRegReg .e .c s)

/-- `LD E,D` (R201). -/
def execLd_E_D (s : State) : Result := .next (loadRegReg .e .d s)

/-- `LD E,E` (R201). -/
def execLd_E_E (s : State) : Result := .next (loadRegReg .e .e s)

/-- `LD E,H` (R201). -/
def execLd_E_H (s : State) : Result := .next (loadRegReg .e .h s)

/-- `LD E,L` (R201). -/
def execLd_E_L (s : State) : Result := .next (loadRegReg .e .l s)

/-- `LD E,(HL)` (R203). -/
def execLd_E_atHL (s : State) : Result := .next (loadRegAt .e (hlAddr s) s)

/-- `LD E,A` (R201). -/
def execLd_E_A (s : State) : Result := .next (loadRegReg .e .a s)

/-- `LD H,B` (R201). -/
def execLd_H_B (s : State) : Result := .next (loadRegReg .h .b s)

/-- `LD H,C` (R201). -/
def execLd_H_C (s : State) : Result := .next (loadRegReg .h .c s)

/-- `LD H,D` (R201). -/
def execLd_H_D (s : State) : Result := .next (loadRegReg .h .d s)

/-- `LD H,E` (R201). -/
def execLd_H_E (s : State) : Result := .next (loadRegReg .h .e s)

/-- `LD H,H` (R201). -/
def execLd_H_H (s : State) : Result := .next (loadRegReg .h .h s)

/-- `LD H,L` (R201). -/
def execLd_H_L (s : State) : Result := .next (loadRegReg .h .l s)

/-- `LD H,(HL)` (R203). -/
def execLd_H_atHL (s : State) : Result := .next (loadRegAt .h (hlAddr s) s)

/-- `LD H,A` (R201). -/
def execLd_H_A (s : State) : Result := .next (loadRegReg .h .a s)

/-- `LD L,B` (R201). -/
def execLd_L_B (s : State) : Result := .next (loadRegReg .l .b s)

/-- `LD L,C` (R201). -/
def execLd_L_C (s : State) : Result := .next (loadRegReg .l .c s)

/-- `LD L,D` (R201). -/
def execLd_L_D (s : State) : Result := .next (loadRegReg .l .d s)

/-- `LD L,E` (R201). -/
def execLd_L_E (s : State) : Result := .next (loadRegReg .l .e s)

/-- `LD L,H` (R201). -/
def execLd_L_H (s : State) : Result := .next (loadRegReg .l .h s)

/-- `LD L,L` (R201). -/
def execLd_L_L (s : State) : Result := .next (loadRegReg .l .l s)

/-- `LD L,(HL)` (R203). -/
def execLd_L_atHL (s : State) : Result := .next (loadRegAt .l (hlAddr s) s)

/-- `LD L,A` (R201). -/
def execLd_L_A (s : State) : Result := .next (loadRegReg .l .a s)

/-- `LD (HL),B` (R204). -/
def execLd_atHL_B (s : State) : Result := .next (storeAt (hlAddr s) (readReg8 .b s) s)

/-- `LD (HL),C` (R204). -/
def execLd_atHL_C (s : State) : Result := .next (storeAt (hlAddr s) (readReg8 .c s) s)

/-- `LD (HL),D` (R204). -/
def execLd_atHL_D (s : State) : Result := .next (storeAt (hlAddr s) (readReg8 .d s) s)

/-- `LD (HL),E` (R204). -/
def execLd_atHL_E (s : State) : Result := .next (storeAt (hlAddr s) (readReg8 .e s) s)

/-- `LD (HL),H` (R204). -/
def execLd_atHL_H (s : State) : Result := .next (storeAt (hlAddr s) (readReg8 .h s) s)

/-- `LD (HL),L` (R204). -/
def execLd_atHL_L (s : State) : Result := .next (storeAt (hlAddr s) (readReg8 .l s) s)

/-- `LD (HL),A` (R204). -/
def execLd_atHL_A (s : State) : Result := .next (storeAt (hlAddr s) (readReg8 .a s) s)

/-- `LD A,B` (R201). -/
def execLd_A_B (s : State) : Result := .next (loadRegReg .a .b s)

/-- `LD A,C` (R201). -/
def execLd_A_C (s : State) : Result := .next (loadRegReg .a .c s)

/-- `LD A,D` (R201). -/
def execLd_A_D (s : State) : Result := .next (loadRegReg .a .d s)

/-- `LD A,E` (R201). -/
def execLd_A_E (s : State) : Result := .next (loadRegReg .a .e s)

/-- `LD A,H` (R201). -/
def execLd_A_H (s : State) : Result := .next (loadRegReg .a .h s)

/-- `LD A,L` (R201). -/
def execLd_A_L (s : State) : Result := .next (loadRegReg .a .l s)

/-- `LD A,(HL)` (R203). -/
def execLd_A_atHL (s : State) : Result := .next (loadRegAt .a (hlAddr s) s)

/-- `LD A,A` (R201). -/
def execLd_A_A (s : State) : Result := .next (loadRegReg .a .a s)

/-- `LDH (a8),A` (R213). -/
def execLdh_atA8_A (a8 : Byte) (s : State) : Result := .next (storeAt (highPage a8) s.regs.a s)

/-- `LD (C),A` (R215). -/
def execLd_atC_A (s : State) : Result := .next (storeAt (highPage s.regs.c) s.regs.a s)

/-- `LD (a16),A` (R211). -/
def execLd_atA16_A (a16 : Word) (s : State) : Result := .next (storeAt a16 s.regs.a s)

/-- `LDH A,(a8)` (R212). -/
def execLdh_A_atA8 (a8 : Byte) (s : State) : Result := .next (loadRegAt .a (highPage a8) s)

/-- `LD A,(C)` (R214). -/
def execLd_A_atC (s : State) : Result := .next (loadRegAt .a (highPage s.regs.c) s)

/-- `LD A,(a16)` (R210). -/
def execLd_A_atA16 (a16 : Word) (s : State) : Result := .next (loadRegAt .a a16 s)

end Sys2Proof.Machine
end

