-- ==== Sys2Proof/Machine/RotShiftBit.lean ====
section
/-! DEFINITION. The rotates, shifts and bit operations (spec/44_rotate_shift_bit.md R310 to R339), and the CB table by its fields (spec/30_encoding.md R171). -/

namespace Sys2Proof.Machine

/-- `RLCA`, `RRCA`, `RLA`, `RRA`: `(A, c) <- op(A); Flags(0, 0, 0, c)`, Z = 0 always (R314 to R317). -/
def rotA (op : RotOp) (s : State) : State :=
  let (v, c) := rot8 op s.regs.a (flagC s)
  setFlags (allFlags false false false c) (writeReg8 .a v s)

/-- The register form of a CB shift or rotate (R318 to R332). -/
def rotReg (op : RotOp) (r : Reg8) (s : State) : State :=
  let (v, c) := rot8 op (readReg8 r s) (flagC s)
  setFlags (rotFlags v c) (writeReg8 r v s)

/-- The memory form of a CB shift or rotate (R319 to R333). -/
def rotAtHL (op : RotOp) (s : State) : State :=
  let (x, s1) := memRead (hlAddr s) s
  let (v, c) := rot8 op x (flagC s1)
  setFlags (rotFlags v c) (memWrite (hlAddr s1) v s1)

/-- `BIT b,r` (R334): nothing but the flags is written. -/
def bitTestReg (b : Nat) (r : Reg8) (s : State) : State := setFlags (bitTestFlags b (readReg8 r s)) s

/-- `BIT b,(HL)` (R335). -/
def bitTestAtHL (b : Nat) (s : State) : State :=
  let (x, s1) := memRead (hlAddr s) s
  setFlags (bitTestFlags b x) s1

/-- `RES b,r` (R336). -/
def bitResetReg (b : Nat) (r : Reg8) (s : State) : State := writeReg8 r (readReg8 r s &&& ~~~bitMask b) s

/-- `RES b,(HL)` (R337). -/
def bitResetAtHL (b : Nat) (s : State) : State :=
  let (x, s1) := memRead (hlAddr s) s
  memWrite (hlAddr s1) (x &&& ~~~bitMask b) s1

/-- `SET b,r` (R338). -/
def bitSetReg (b : Nat) (r : Reg8) (s : State) : State := writeReg8 r (readReg8 r s ||| bitMask b) s

/-- `SET b,(HL)` (R339). -/
def bitSetAtHL (b : Nat) (s : State) : State :=
  let (x, s1) := memRead (hlAddr s) s
  memWrite (hlAddr s1) (x ||| bitMask b) s1

/-- `rot[y]` (R166). -/
def rotOp (y : BitVec 3) : RotOp :=
  match y.toNat with
  | 0 => .rlc
  | 1 => .rrc
  | 2 => .rl
  | 3 => .rr
  | 4 => .sla
  | 5 => .sra
  | 6 => .swap
  | _ => .srl

/-- A CB shift or rotate on either operand form. -/
def cbRotate (op : RotOp) : Operand8 → State → State
  | .reg r, s => rotReg op r s
  | .atHL, s => rotAtHL op s

/-- `BIT` on either operand form. -/
def cbBitTest (b : Nat) : Operand8 → State → State
  | .reg r, s => bitTestReg b r s
  | .atHL, s => bitTestAtHL b s

/-- `RES` on either operand form. -/
def cbBitReset (b : Nat) : Operand8 → State → State
  | .reg r, s => bitResetReg b r s
  | .atHL, s => bitResetAtHL b s

/-- `SET` on either operand form. -/
def cbBitSet (b : Nat) : Operand8 → State → State
  | .reg r, s => bitSetReg b r s
  | .atHL, s => bitSetAtHL b s

/-- CB-table entry `cbop`, by its fields x, y, z (R161, R171). -/
def cbOperation (cbop : Byte) (s : State) : State :=
  let y := cbop.extractLsb' 3 3
  let x8 := operand8 (cbop.extractLsb' 0 3)
  match (cbop.extractLsb' 6 2).toNat with
  | 0 => cbRotate (rotOp y) x8 s
  | 1 => cbBitTest y.toNat x8 s
  | 2 => cbBitReset y.toNat x8 s
  | _ => cbBitSet y.toNat x8 s

/-- `RLCA` (R314). -/
def execRlca (s : State) : Result := .next (rotA .rlc s)

/-- `RRCA` (R315). -/
def execRrca (s : State) : Result := .next (rotA .rrc s)

/-- `RLA` (R316). -/
def execRla (s : State) : Result := .next (rotA .rl s)

/-- `RRA` (R317). -/
def execRra (s : State) : Result := .next (rotA .rr s)

/-- `RLC B` (R318). -/
def execRlc_B (s : State) : Result := .next (rotReg .rlc .b s)

/-- `RLC C` (R318). -/
def execRlc_C (s : State) : Result := .next (rotReg .rlc .c s)

/-- `RLC D` (R318). -/
def execRlc_D (s : State) : Result := .next (rotReg .rlc .d s)

/-- `RLC E` (R318). -/
def execRlc_E (s : State) : Result := .next (rotReg .rlc .e s)

/-- `RLC H` (R318). -/
def execRlc_H (s : State) : Result := .next (rotReg .rlc .h s)

/-- `RLC L` (R318). -/
def execRlc_L (s : State) : Result := .next (rotReg .rlc .l s)

/-- `RLC (HL)` (R319). -/
def execRlc_atHL (s : State) : Result := .next (rotAtHL .rlc s)

/-- `RLC A` (R318). -/
def execRlc_A (s : State) : Result := .next (rotReg .rlc .a s)

/-- `RRC B` (R320). -/
def execRrc_B (s : State) : Result := .next (rotReg .rrc .b s)

/-- `RRC C` (R320). -/
def execRrc_C (s : State) : Result := .next (rotReg .rrc .c s)

/-- `RRC D` (R320). -/
def execRrc_D (s : State) : Result := .next (rotReg .rrc .d s)

/-- `RRC E` (R320). -/
def execRrc_E (s : State) : Result := .next (rotReg .rrc .e s)

/-- `RRC H` (R320). -/
def execRrc_H (s : State) : Result := .next (rotReg .rrc .h s)

/-- `RRC L` (R320). -/
def execRrc_L (s : State) : Result := .next (rotReg .rrc .l s)

/-- `RRC (HL)` (R321). -/
def execRrc_atHL (s : State) : Result := .next (rotAtHL .rrc s)

/-- `RRC A` (R320). -/
def execRrc_A (s : State) : Result := .next (rotReg .rrc .a s)

/-- `RL B` (R322). -/
def execRl_B (s : State) : Result := .next (rotReg .rl .b s)

/-- `RL C` (R322). -/
def execRl_C (s : State) : Result := .next (rotReg .rl .c s)

/-- `RL D` (R322). -/
def execRl_D (s : State) : Result := .next (rotReg .rl .d s)

/-- `RL E` (R322). -/
def execRl_E (s : State) : Result := .next (rotReg .rl .e s)

/-- `RL H` (R322). -/
def execRl_H (s : State) : Result := .next (rotReg .rl .h s)

/-- `RL L` (R322). -/
def execRl_L (s : State) : Result := .next (rotReg .rl .l s)

/-- `RL (HL)` (R323). -/
def execRl_atHL (s : State) : Result := .next (rotAtHL .rl s)

/-- `RL A` (R322). -/
def execRl_A (s : State) : Result := .next (rotReg .rl .a s)

/-- `RR B` (R324). -/
def execRr_B (s : State) : Result := .next (rotReg .rr .b s)

/-- `RR C` (R324). -/
def execRr_C (s : State) : Result := .next (rotReg .rr .c s)

/-- `RR D` (R324). -/
def execRr_D (s : State) : Result := .next (rotReg .rr .d s)

/-- `RR E` (R324). -/
def execRr_E (s : State) : Result := .next (rotReg .rr .e s)

/-- `RR H` (R324). -/
def execRr_H (s : State) : Result := .next (rotReg .rr .h s)

/-- `RR L` (R324). -/
def execRr_L (s : State) : Result := .next (rotReg .rr .l s)

/-- `RR (HL)` (R325). -/
def execRr_atHL (s : State) : Result := .next (rotAtHL .rr s)

/-- `RR A` (R324). -/
def execRr_A (s : State) : Result := .next (rotReg .rr .a s)

/-- `SLA B` (R326). -/
def execSla_B (s : State) : Result := .next (rotReg .sla .b s)

/-- `SLA C` (R326). -/
def execSla_C (s : State) : Result := .next (rotReg .sla .c s)

/-- `SLA D` (R326). -/
def execSla_D (s : State) : Result := .next (rotReg .sla .d s)

/-- `SLA E` (R326). -/
def execSla_E (s : State) : Result := .next (rotReg .sla .e s)

/-- `SLA H` (R326). -/
def execSla_H (s : State) : Result := .next (rotReg .sla .h s)

/-- `SLA L` (R326). -/
def execSla_L (s : State) : Result := .next (rotReg .sla .l s)

/-- `SLA (HL)` (R327). -/
def execSla_atHL (s : State) : Result := .next (rotAtHL .sla s)

/-- `SLA A` (R326). -/
def execSla_A (s : State) : Result := .next (rotReg .sla .a s)

/-- `SRA B` (R328). -/
def execSra_B (s : State) : Result := .next (rotReg .sra .b s)

/-- `SRA C` (R328). -/
def execSra_C (s : State) : Result := .next (rotReg .sra .c s)

/-- `SRA D` (R328). -/
def execSra_D (s : State) : Result := .next (rotReg .sra .d s)

/-- `SRA E` (R328). -/
def execSra_E (s : State) : Result := .next (rotReg .sra .e s)

/-- `SRA H` (R328). -/
def execSra_H (s : State) : Result := .next (rotReg .sra .h s)

/-- `SRA L` (R328). -/
def execSra_L (s : State) : Result := .next (rotReg .sra .l s)

/-- `SRA (HL)` (R329). -/
def execSra_atHL (s : State) : Result := .next (rotAtHL .sra s)

/-- `SRA A` (R328). -/
def execSra_A (s : State) : Result := .next (rotReg .sra .a s)

/-- `SWAP B` (R330). -/
def execSwap_B (s : State) : Result := .next (rotReg .swap .b s)

/-- `SWAP C` (R330). -/
def execSwap_C (s : State) : Result := .next (rotReg .swap .c s)

/-- `SWAP D` (R330). -/
def execSwap_D (s : State) : Result := .next (rotReg .swap .d s)

/-- `SWAP E` (R330). -/
def execSwap_E (s : State) : Result := .next (rotReg .swap .e s)

/-- `SWAP H` (R330). -/
def execSwap_H (s : State) : Result := .next (rotReg .swap .h s)

/-- `SWAP L` (R330). -/
def execSwap_L (s : State) : Result := .next (rotReg .swap .l s)

/-- `SWAP (HL)` (R331). -/
def execSwap_atHL (s : State) : Result := .next (rotAtHL .swap s)

/-- `SWAP A` (R330). -/
def execSwap_A (s : State) : Result := .next (rotReg .swap .a s)

/-- `SRL B` (R332). -/
def execSrl_B (s : State) : Result := .next (rotReg .srl .b s)

/-- `SRL C` (R332). -/
def execSrl_C (s : State) : Result := .next (rotReg .srl .c s)

/-- `SRL D` (R332). -/
def execSrl_D (s : State) : Result := .next (rotReg .srl .d s)

/-- `SRL E` (R332). -/
def execSrl_E (s : State) : Result := .next (rotReg .srl .e s)

/-- `SRL H` (R332). -/
def execSrl_H (s : State) : Result := .next (rotReg .srl .h s)

/-- `SRL L` (R332). -/
def execSrl_L (s : State) : Result := .next (rotReg .srl .l s)

/-- `SRL (HL)` (R333). -/
def execSrl_atHL (s : State) : Result := .next (rotAtHL .srl s)

/-- `SRL A` (R332). -/
def execSrl_A (s : State) : Result := .next (rotReg .srl .a s)

/-- `BIT 0,B` (R334). -/
def execBit_0_B (s : State) : Result := .next (bitTestReg 0 .b s)

/-- `BIT 0,C` (R334). -/
def execBit_0_C (s : State) : Result := .next (bitTestReg 0 .c s)

/-- `BIT 0,D` (R334). -/
def execBit_0_D (s : State) : Result := .next (bitTestReg 0 .d s)

/-- `BIT 0,E` (R334). -/
def execBit_0_E (s : State) : Result := .next (bitTestReg 0 .e s)

/-- `BIT 0,H` (R334). -/
def execBit_0_H (s : State) : Result := .next (bitTestReg 0 .h s)

/-- `BIT 0,L` (R334). -/
def execBit_0_L (s : State) : Result := .next (bitTestReg 0 .l s)

/-- `BIT 0,(HL)` (R335). -/
def execBit_0_atHL (s : State) : Result := .next (bitTestAtHL 0 s)

/-- `BIT 0,A` (R334). -/
def execBit_0_A (s : State) : Result := .next (bitTestReg 0 .a s)

/-- `BIT 1,B` (R334). -/
def execBit_1_B (s : State) : Result := .next (bitTestReg 1 .b s)

/-- `BIT 1,C` (R334). -/
def execBit_1_C (s : State) : Result := .next (bitTestReg 1 .c s)

/-- `BIT 1,D` (R334). -/
def execBit_1_D (s : State) : Result := .next (bitTestReg 1 .d s)

/-- `BIT 1,E` (R334). -/
def execBit_1_E (s : State) : Result := .next (bitTestReg 1 .e s)

/-- `BIT 1,H` (R334). -/
def execBit_1_H (s : State) : Result := .next (bitTestReg 1 .h s)

/-- `BIT 1,L` (R334). -/
def execBit_1_L (s : State) : Result := .next (bitTestReg 1 .l s)

/-- `BIT 1,(HL)` (R335). -/
def execBit_1_atHL (s : State) : Result := .next (bitTestAtHL 1 s)

/-- `BIT 1,A` (R334). -/
def execBit_1_A (s : State) : Result := .next (bitTestReg 1 .a s)

/-- `BIT 2,B` (R334). -/
def execBit_2_B (s : State) : Result := .next (bitTestReg 2 .b s)

/-- `BIT 2,C` (R334). -/
def execBit_2_C (s : State) : Result := .next (bitTestReg 2 .c s)

/-- `BIT 2,D` (R334). -/
def execBit_2_D (s : State) : Result := .next (bitTestReg 2 .d s)

/-- `BIT 2,E` (R334). -/
def execBit_2_E (s : State) : Result := .next (bitTestReg 2 .e s)

/-- `BIT 2,H` (R334). -/
def execBit_2_H (s : State) : Result := .next (bitTestReg 2 .h s)

/-- `BIT 2,L` (R334). -/
def execBit_2_L (s : State) : Result := .next (bitTestReg 2 .l s)

/-- `BIT 2,(HL)` (R335). -/
def execBit_2_atHL (s : State) : Result := .next (bitTestAtHL 2 s)

/-- `BIT 2,A` (R334). -/
def execBit_2_A (s : State) : Result := .next (bitTestReg 2 .a s)

/-- `BIT 3,B` (R334). -/
def execBit_3_B (s : State) : Result := .next (bitTestReg 3 .b s)

/-- `BIT 3,C` (R334). -/
def execBit_3_C (s : State) : Result := .next (bitTestReg 3 .c s)

/-- `BIT 3,D` (R334). -/
def execBit_3_D (s : State) : Result := .next (bitTestReg 3 .d s)

/-- `BIT 3,E` (R334). -/
def execBit_3_E (s : State) : Result := .next (bitTestReg 3 .e s)

/-- `BIT 3,H` (R334). -/
def execBit_3_H (s : State) : Result := .next (bitTestReg 3 .h s)

/-- `BIT 3,L` (R334). -/
def execBit_3_L (s : State) : Result := .next (bitTestReg 3 .l s)

/-- `BIT 3,(HL)` (R335). -/
def execBit_3_atHL (s : State) : Result := .next (bitTestAtHL 3 s)

/-- `BIT 3,A` (R334). -/
def execBit_3_A (s : State) : Result := .next (bitTestReg 3 .a s)

/-- `BIT 4,B` (R334). -/
def execBit_4_B (s : State) : Result := .next (bitTestReg 4 .b s)

/-- `BIT 4,C` (R334). -/
def execBit_4_C (s : State) : Result := .next (bitTestReg 4 .c s)

/-- `BIT 4,D` (R334). -/
def execBit_4_D (s : State) : Result := .next (bitTestReg 4 .d s)

/-- `BIT 4,E` (R334). -/
def execBit_4_E (s : State) : Result := .next (bitTestReg 4 .e s)

/-- `BIT 4,H` (R334). -/
def execBit_4_H (s : State) : Result := .next (bitTestReg 4 .h s)

/-- `BIT 4,L` (R334). -/
def execBit_4_L (s : State) : Result := .next (bitTestReg 4 .l s)

/-- `BIT 4,(HL)` (R335). -/
def execBit_4_atHL (s : State) : Result := .next (bitTestAtHL 4 s)

/-- `BIT 4,A` (R334). -/
def execBit_4_A (s : State) : Result := .next (bitTestReg 4 .a s)

/-- `BIT 5,B` (R334). -/
def execBit_5_B (s : State) : Result := .next (bitTestReg 5 .b s)

/-- `BIT 5,C` (R334). -/
def execBit_5_C (s : State) : Result := .next (bitTestReg 5 .c s)

/-- `BIT 5,D` (R334). -/
def execBit_5_D (s : State) : Result := .next (bitTestReg 5 .d s)

/-- `BIT 5,E` (R334). -/
def execBit_5_E (s : State) : Result := .next (bitTestReg 5 .e s)

/-- `BIT 5,H` (R334). -/
def execBit_5_H (s : State) : Result := .next (bitTestReg 5 .h s)

/-- `BIT 5,L` (R334). -/
def execBit_5_L (s : State) : Result := .next (bitTestReg 5 .l s)

/-- `BIT 5,(HL)` (R335). -/
def execBit_5_atHL (s : State) : Result := .next (bitTestAtHL 5 s)

/-- `BIT 5,A` (R334). -/
def execBit_5_A (s : State) : Result := .next (bitTestReg 5 .a s)

/-- `BIT 6,B` (R334). -/
def execBit_6_B (s : State) : Result := .next (bitTestReg 6 .b s)

/-- `BIT 6,C` (R334). -/
def execBit_6_C (s : State) : Result := .next (bitTestReg 6 .c s)

/-- `BIT 6,D` (R334). -/
def execBit_6_D (s : State) : Result := .next (bitTestReg 6 .d s)

/-- `BIT 6,E` (R334). -/
def execBit_6_E (s : State) : Result := .next (bitTestReg 6 .e s)

/-- `BIT 6,H` (R334). -/
def execBit_6_H (s : State) : Result := .next (bitTestReg 6 .h s)

/-- `BIT 6,L` (R334). -/
def execBit_6_L (s : State) : Result := .next (bitTestReg 6 .l s)

/-- `BIT 6,(HL)` (R335). -/
def execBit_6_atHL (s : State) : Result := .next (bitTestAtHL 6 s)

/-- `BIT 6,A` (R334). -/
def execBit_6_A (s : State) : Result := .next (bitTestReg 6 .a s)

/-- `BIT 7,B` (R334). -/
def execBit_7_B (s : State) : Result := .next (bitTestReg 7 .b s)

/-- `BIT 7,C` (R334). -/
def execBit_7_C (s : State) : Result := .next (bitTestReg 7 .c s)

/-- `BIT 7,D` (R334). -/
def execBit_7_D (s : State) : Result := .next (bitTestReg 7 .d s)

/-- `BIT 7,E` (R334). -/
def execBit_7_E (s : State) : Result := .next (bitTestReg 7 .e s)

/-- `BIT 7,H` (R334). -/
def execBit_7_H (s : State) : Result := .next (bitTestReg 7 .h s)

/-- `BIT 7,L` (R334). -/
def execBit_7_L (s : State) : Result := .next (bitTestReg 7 .l s)

/-- `BIT 7,(HL)` (R335). -/
def execBit_7_atHL (s : State) : Result := .next (bitTestAtHL 7 s)

/-- `BIT 7,A` (R334). -/
def execBit_7_A (s : State) : Result := .next (bitTestReg 7 .a s)

/-- `RES 0,B` (R336). -/
def execRes_0_B (s : State) : Result := .next (bitResetReg 0 .b s)

/-- `RES 0,C` (R336). -/
def execRes_0_C (s : State) : Result := .next (bitResetReg 0 .c s)

/-- `RES 0,D` (R336). -/
def execRes_0_D (s : State) : Result := .next (bitResetReg 0 .d s)

/-- `RES 0,E` (R336). -/
def execRes_0_E (s : State) : Result := .next (bitResetReg 0 .e s)

/-- `RES 0,H` (R336). -/
def execRes_0_H (s : State) : Result := .next (bitResetReg 0 .h s)

/-- `RES 0,L` (R336). -/
def execRes_0_L (s : State) : Result := .next (bitResetReg 0 .l s)

/-- `RES 0,(HL)` (R337). -/
def execRes_0_atHL (s : State) : Result := .next (bitResetAtHL 0 s)

/-- `RES 0,A` (R336). -/
def execRes_0_A (s : State) : Result := .next (bitResetReg 0 .a s)

/-- `RES 1,B` (R336). -/
def execRes_1_B (s : State) : Result := .next (bitResetReg 1 .b s)

/-- `RES 1,C` (R336). -/
def execRes_1_C (s : State) : Result := .next (bitResetReg 1 .c s)

/-- `RES 1,D` (R336). -/
def execRes_1_D (s : State) : Result := .next (bitResetReg 1 .d s)

/-- `RES 1,E` (R336). -/
def execRes_1_E (s : State) : Result := .next (bitResetReg 1 .e s)

/-- `RES 1,H` (R336). -/
def execRes_1_H (s : State) : Result := .next (bitResetReg 1 .h s)

/-- `RES 1,L` (R336). -/
def execRes_1_L (s : State) : Result := .next (bitResetReg 1 .l s)

/-- `RES 1,(HL)` (R337). -/
def execRes_1_atHL (s : State) : Result := .next (bitResetAtHL 1 s)

/-- `RES 1,A` (R336). -/
def execRes_1_A (s : State) : Result := .next (bitResetReg 1 .a s)

/-- `RES 2,B` (R336). -/
def execRes_2_B (s : State) : Result := .next (bitResetReg 2 .b s)

/-- `RES 2,C` (R336). -/
def execRes_2_C (s : State) : Result := .next (bitResetReg 2 .c s)

/-- `RES 2,D` (R336). -/
def execRes_2_D (s : State) : Result := .next (bitResetReg 2 .d s)

/-- `RES 2,E` (R336). -/
def execRes_2_E (s : State) : Result := .next (bitResetReg 2 .e s)

/-- `RES 2,H` (R336). -/
def execRes_2_H (s : State) : Result := .next (bitResetReg 2 .h s)

/-- `RES 2,L` (R336). -/
def execRes_2_L (s : State) : Result := .next (bitResetReg 2 .l s)

/-- `RES 2,(HL)` (R337). -/
def execRes_2_atHL (s : State) : Result := .next (bitResetAtHL 2 s)

/-- `RES 2,A` (R336). -/
def execRes_2_A (s : State) : Result := .next (bitResetReg 2 .a s)

/-- `RES 3,B` (R336). -/
def execRes_3_B (s : State) : Result := .next (bitResetReg 3 .b s)

/-- `RES 3,C` (R336). -/
def execRes_3_C (s : State) : Result := .next (bitResetReg 3 .c s)

/-- `RES 3,D` (R336). -/
def execRes_3_D (s : State) : Result := .next (bitResetReg 3 .d s)

/-- `RES 3,E` (R336). -/
def execRes_3_E (s : State) : Result := .next (bitResetReg 3 .e s)

/-- `RES 3,H` (R336). -/
def execRes_3_H (s : State) : Result := .next (bitResetReg 3 .h s)

/-- `RES 3,L` (R336). -/
def execRes_3_L (s : State) : Result := .next (bitResetReg 3 .l s)

/-- `RES 3,(HL)` (R337). -/
def execRes_3_atHL (s : State) : Result := .next (bitResetAtHL 3 s)

/-- `RES 3,A` (R336). -/
def execRes_3_A (s : State) : Result := .next (bitResetReg 3 .a s)

/-- `RES 4,B` (R336). -/
def execRes_4_B (s : State) : Result := .next (bitResetReg 4 .b s)

/-- `RES 4,C` (R336). -/
def execRes_4_C (s : State) : Result := .next (bitResetReg 4 .c s)

/-- `RES 4,D` (R336). -/
def execRes_4_D (s : State) : Result := .next (bitResetReg 4 .d s)

/-- `RES 4,E` (R336). -/
def execRes_4_E (s : State) : Result := .next (bitResetReg 4 .e s)

/-- `RES 4,H` (R336). -/
def execRes_4_H (s : State) : Result := .next (bitResetReg 4 .h s)

/-- `RES 4,L` (R336). -/
def execRes_4_L (s : State) : Result := .next (bitResetReg 4 .l s)

/-- `RES 4,(HL)` (R337). -/
def execRes_4_atHL (s : State) : Result := .next (bitResetAtHL 4 s)

/-- `RES 4,A` (R336). -/
def execRes_4_A (s : State) : Result := .next (bitResetReg 4 .a s)

/-- `RES 5,B` (R336). -/
def execRes_5_B (s : State) : Result := .next (bitResetReg 5 .b s)

/-- `RES 5,C` (R336). -/
def execRes_5_C (s : State) : Result := .next (bitResetReg 5 .c s)

/-- `RES 5,D` (R336). -/
def execRes_5_D (s : State) : Result := .next (bitResetReg 5 .d s)

/-- `RES 5,E` (R336). -/
def execRes_5_E (s : State) : Result := .next (bitResetReg 5 .e s)

/-- `RES 5,H` (R336). -/
def execRes_5_H (s : State) : Result := .next (bitResetReg 5 .h s)

/-- `RES 5,L` (R336). -/
def execRes_5_L (s : State) : Result := .next (bitResetReg 5 .l s)

/-- `RES 5,(HL)` (R337). -/
def execRes_5_atHL (s : State) : Result := .next (bitResetAtHL 5 s)

/-- `RES 5,A` (R336). -/
def execRes_5_A (s : State) : Result := .next (bitResetReg 5 .a s)

/-- `RES 6,B` (R336). -/
def execRes_6_B (s : State) : Result := .next (bitResetReg 6 .b s)

/-- `RES 6,C` (R336). -/
def execRes_6_C (s : State) : Result := .next (bitResetReg 6 .c s)

/-- `RES 6,D` (R336). -/
def execRes_6_D (s : State) : Result := .next (bitResetReg 6 .d s)

/-- `RES 6,E` (R336). -/
def execRes_6_E (s : State) : Result := .next (bitResetReg 6 .e s)

/-- `RES 6,H` (R336). -/
def execRes_6_H (s : State) : Result := .next (bitResetReg 6 .h s)

/-- `RES 6,L` (R336). -/
def execRes_6_L (s : State) : Result := .next (bitResetReg 6 .l s)

/-- `RES 6,(HL)` (R337). -/
def execRes_6_atHL (s : State) : Result := .next (bitResetAtHL 6 s)

/-- `RES 6,A` (R336). -/
def execRes_6_A (s : State) : Result := .next (bitResetReg 6 .a s)

/-- `RES 7,B` (R336). -/
def execRes_7_B (s : State) : Result := .next (bitResetReg 7 .b s)

/-- `RES 7,C` (R336). -/
def execRes_7_C (s : State) : Result := .next (bitResetReg 7 .c s)

/-- `RES 7,D` (R336). -/
def execRes_7_D (s : State) : Result := .next (bitResetReg 7 .d s)

/-- `RES 7,E` (R336). -/
def execRes_7_E (s : State) : Result := .next (bitResetReg 7 .e s)

/-- `RES 7,H` (R336). -/
def execRes_7_H (s : State) : Result := .next (bitResetReg 7 .h s)

/-- `RES 7,L` (R336). -/
def execRes_7_L (s : State) : Result := .next (bitResetReg 7 .l s)

/-- `RES 7,(HL)` (R337). -/
def execRes_7_atHL (s : State) : Result := .next (bitResetAtHL 7 s)

/-- `RES 7,A` (R336). -/
def execRes_7_A (s : State) : Result := .next (bitResetReg 7 .a s)

/-- `SET 0,B` (R338). -/
def execSet_0_B (s : State) : Result := .next (bitSetReg 0 .b s)

/-- `SET 0,C` (R338). -/
def execSet_0_C (s : State) : Result := .next (bitSetReg 0 .c s)

/-- `SET 0,D` (R338). -/
def execSet_0_D (s : State) : Result := .next (bitSetReg 0 .d s)

/-- `SET 0,E` (R338). -/
def execSet_0_E (s : State) : Result := .next (bitSetReg 0 .e s)

/-- `SET 0,H` (R338). -/
def execSet_0_H (s : State) : Result := .next (bitSetReg 0 .h s)

/-- `SET 0,L` (R338). -/
def execSet_0_L (s : State) : Result := .next (bitSetReg 0 .l s)

/-- `SET 0,(HL)` (R339). -/
def execSet_0_atHL (s : State) : Result := .next (bitSetAtHL 0 s)

/-- `SET 0,A` (R338). -/
def execSet_0_A (s : State) : Result := .next (bitSetReg 0 .a s)

/-- `SET 1,B` (R338). -/
def execSet_1_B (s : State) : Result := .next (bitSetReg 1 .b s)

/-- `SET 1,C` (R338). -/
def execSet_1_C (s : State) : Result := .next (bitSetReg 1 .c s)

/-- `SET 1,D` (R338). -/
def execSet_1_D (s : State) : Result := .next (bitSetReg 1 .d s)

/-- `SET 1,E` (R338). -/
def execSet_1_E (s : State) : Result := .next (bitSetReg 1 .e s)

/-- `SET 1,H` (R338). -/
def execSet_1_H (s : State) : Result := .next (bitSetReg 1 .h s)

/-- `SET 1,L` (R338). -/
def execSet_1_L (s : State) : Result := .next (bitSetReg 1 .l s)

/-- `SET 1,(HL)` (R339). -/
def execSet_1_atHL (s : State) : Result := .next (bitSetAtHL 1 s)

/-- `SET 1,A` (R338). -/
def execSet_1_A (s : State) : Result := .next (bitSetReg 1 .a s)

/-- `SET 2,B` (R338). -/
def execSet_2_B (s : State) : Result := .next (bitSetReg 2 .b s)

/-- `SET 2,C` (R338). -/
def execSet_2_C (s : State) : Result := .next (bitSetReg 2 .c s)

/-- `SET 2,D` (R338). -/
def execSet_2_D (s : State) : Result := .next (bitSetReg 2 .d s)

/-- `SET 2,E` (R338). -/
def execSet_2_E (s : State) : Result := .next (bitSetReg 2 .e s)

/-- `SET 2,H` (R338). -/
def execSet_2_H (s : State) : Result := .next (bitSetReg 2 .h s)

/-- `SET 2,L` (R338). -/
def execSet_2_L (s : State) : Result := .next (bitSetReg 2 .l s)

/-- `SET 2,(HL)` (R339). -/
def execSet_2_atHL (s : State) : Result := .next (bitSetAtHL 2 s)

/-- `SET 2,A` (R338). -/
def execSet_2_A (s : State) : Result := .next (bitSetReg 2 .a s)

/-- `SET 3,B` (R338). -/
def execSet_3_B (s : State) : Result := .next (bitSetReg 3 .b s)

/-- `SET 3,C` (R338). -/
def execSet_3_C (s : State) : Result := .next (bitSetReg 3 .c s)

/-- `SET 3,D` (R338). -/
def execSet_3_D (s : State) : Result := .next (bitSetReg 3 .d s)

/-- `SET 3,E` (R338). -/
def execSet_3_E (s : State) : Result := .next (bitSetReg 3 .e s)

/-- `SET 3,H` (R338). -/
def execSet_3_H (s : State) : Result := .next (bitSetReg 3 .h s)

/-- `SET 3,L` (R338). -/
def execSet_3_L (s : State) : Result := .next (bitSetReg 3 .l s)

/-- `SET 3,(HL)` (R339). -/
def execSet_3_atHL (s : State) : Result := .next (bitSetAtHL 3 s)

/-- `SET 3,A` (R338). -/
def execSet_3_A (s : State) : Result := .next (bitSetReg 3 .a s)

/-- `SET 4,B` (R338). -/
def execSet_4_B (s : State) : Result := .next (bitSetReg 4 .b s)

/-- `SET 4,C` (R338). -/
def execSet_4_C (s : State) : Result := .next (bitSetReg 4 .c s)

/-- `SET 4,D` (R338). -/
def execSet_4_D (s : State) : Result := .next (bitSetReg 4 .d s)

/-- `SET 4,E` (R338). -/
def execSet_4_E (s : State) : Result := .next (bitSetReg 4 .e s)

/-- `SET 4,H` (R338). -/
def execSet_4_H (s : State) : Result := .next (bitSetReg 4 .h s)

/-- `SET 4,L` (R338). -/
def execSet_4_L (s : State) : Result := .next (bitSetReg 4 .l s)

/-- `SET 4,(HL)` (R339). -/
def execSet_4_atHL (s : State) : Result := .next (bitSetAtHL 4 s)

/-- `SET 4,A` (R338). -/
def execSet_4_A (s : State) : Result := .next (bitSetReg 4 .a s)

/-- `SET 5,B` (R338). -/
def execSet_5_B (s : State) : Result := .next (bitSetReg 5 .b s)

/-- `SET 5,C` (R338). -/
def execSet_5_C (s : State) : Result := .next (bitSetReg 5 .c s)

/-- `SET 5,D` (R338). -/
def execSet_5_D (s : State) : Result := .next (bitSetReg 5 .d s)

/-- `SET 5,E` (R338). -/
def execSet_5_E (s : State) : Result := .next (bitSetReg 5 .e s)

/-- `SET 5,H` (R338). -/
def execSet_5_H (s : State) : Result := .next (bitSetReg 5 .h s)

/-- `SET 5,L` (R338). -/
def execSet_5_L (s : State) : Result := .next (bitSetReg 5 .l s)

/-- `SET 5,(HL)` (R339). -/
def execSet_5_atHL (s : State) : Result := .next (bitSetAtHL 5 s)

/-- `SET 5,A` (R338). -/
def execSet_5_A (s : State) : Result := .next (bitSetReg 5 .a s)

/-- `SET 6,B` (R338). -/
def execSet_6_B (s : State) : Result := .next (bitSetReg 6 .b s)

/-- `SET 6,C` (R338). -/
def execSet_6_C (s : State) : Result := .next (bitSetReg 6 .c s)

/-- `SET 6,D` (R338). -/
def execSet_6_D (s : State) : Result := .next (bitSetReg 6 .d s)

/-- `SET 6,E` (R338). -/
def execSet_6_E (s : State) : Result := .next (bitSetReg 6 .e s)

/-- `SET 6,H` (R338). -/
def execSet_6_H (s : State) : Result := .next (bitSetReg 6 .h s)

/-- `SET 6,L` (R338). -/
def execSet_6_L (s : State) : Result := .next (bitSetReg 6 .l s)

/-- `SET 6,(HL)` (R339). -/
def execSet_6_atHL (s : State) : Result := .next (bitSetAtHL 6 s)

/-- `SET 6,A` (R338). -/
def execSet_6_A (s : State) : Result := .next (bitSetReg 6 .a s)

/-- `SET 7,B` (R338). -/
def execSet_7_B (s : State) : Result := .next (bitSetReg 7 .b s)

/-- `SET 7,C` (R338). -/
def execSet_7_C (s : State) : Result := .next (bitSetReg 7 .c s)

/-- `SET 7,D` (R338). -/
def execSet_7_D (s : State) : Result := .next (bitSetReg 7 .d s)

/-- `SET 7,E` (R338). -/
def execSet_7_E (s : State) : Result := .next (bitSetReg 7 .e s)

/-- `SET 7,H` (R338). -/
def execSet_7_H (s : State) : Result := .next (bitSetReg 7 .h s)

/-- `SET 7,L` (R338). -/
def execSet_7_L (s : State) : Result := .next (bitSetReg 7 .l s)

/-- `SET 7,(HL)` (R339). -/
def execSet_7_atHL (s : State) : Result := .next (bitSetAtHL 7 s)

/-- `SET 7,A` (R338). -/
def execSet_7_A (s : State) : Result := .next (bitSetReg 7 .a s)

end Sys2Proof.Machine
end

