-- ==== Sys2Proof/Machine/System.lean ====
section
/-! DEFINITION. The system instructions (spec/46_system.md R370 to R377): NOP, HALT, STOP, EI, DI, the CB prefix, the undefined opcodes. -/

namespace Sys2Proof.Machine

/-- `halted <- 1` (R371). -/
def haltCpu (s : State) : State := { s with halted := true }

/-- STOP by the parameter `STOP_MODE` (R372): refused by name, or a NOP of one byte, or a NOP that fetches and discards
a second byte. -/
def stopByMode (s : State) : Result :=
  match s.cfg.stopMode with
  | .refuse => .refused .stopRefused
  | .nop1 => .next s
  | .nop2 => .next (fetch8 s).2

/-- `ime_pending <- 1`, whatever IME is (R373, R29). -/
def enableInterrupts (s : State) : State := { s with imePending := true }

/-- `IME <- 0; ime_pending <- 0` (R374). -/
def disableInterrupts (s : State) : State := { s with ime := false, imePending := false }

/-- The prefix: `cbop <- Fetch8()`, then CB-table entry `cbop` (R375). -/
def cbPrefixed (s : State) : State :=
  let (cbop, s1) := fetch8 s
  cbOperation cbop s1

/-- `NOP` (R370). -/
def execNop (s : State) : Result := .next s

/-- `STOP` (R372). -/
def execStop (s : State) : Result := stopByMode s

/-- `HALT` (R371). -/
def execHalt (s : State) : Result := .next (haltCpu s)

/-- The prefix 0xCB (R375). -/
def execCbPrefix (s : State) : Result := .next (cbPrefixed s)

/-- An undefined opcode (R377). -/
def execIllegal (_op : Byte) (s : State) : Result := .next (raiseIllegalOpcode s)

/-- `DI` (R374). -/
def execDi (s : State) : Result := .next (disableInterrupts s)

/-- `EI` (R373). -/
def execEi (s : State) : Result := .next (enableInterrupts s)

end Sys2Proof.Machine
end

