-- ==== Sys2Proof/Machine/Devices.lean ====
section
/-! DEFINITION. The DIV and TIMA timer, the OAM DMA engine and the joypad latch (spec/62_timer_dma_joypad.md R500 to R521). -/

namespace Sys2Proof.Machine

/-- Cycles per TIMA count, by TAC bits 1:0 (R502). -/
def timaPeriod (tac : Byte) : Nat :=
  match (tac.extractLsb' 0 2).toNat with
  | 0 => 1024
  | 1 => 16
  | 2 => 64
  | _ => 256

/-- One TIMA count: an overflow reloads TMA and requests the timer interrupt (R502). -/
def timaCount (s : State) : State :=
  if s.timer.tima = 0xFF then requestInterrupt .timer { s with timer := { s.timer with tima := s.timer.tma } }
  else { s with timer := { s.timer with tima := s.timer.tima + 1 } }

/-- `k` TIMA counts (R502). -/
def timaCounts : Nat → State → State
  | 0, s => s
  | k + 1, s => timaCounts k (timaCount s)

/-- `TimaAdvance(old, n)` (R502): one count each time DIV crosses a multiple of the period. -/
def timaAdvance (old n : Nat) (s : State) : State :=
  if s.timer.tac.getLsbD 2 then
    timaCounts ((old + n) / timaPeriod s.timer.tac - old / timaPeriod s.timer.tac) s
  else s

/-- `TimerAdvance(n)` (R500). -/
def timerAdvance (n : Nat) (s : State) : State :=
  let counted := { s with timer := { s.timer with div := s.timer.div + BitVec.ofNat 16 n } }
  match s.cfg.timerMode with
  | .reference => counted
  | .full => timaAdvance s.timer.div.toNat n counted

/-- The address of the byte the DMA engine copies next (R510, R511). -/
def dmaSource (s : State) : Word := joinBytes 0 s.dma.reg + BitVec.ofNat 16 s.dma.index

/-- One byte copied over the raw bus (R511). -/
def dmaCopy (s : State) : State :=
  let copied := rawWrite (0xFE00#16 + BitVec.ofNat 16 s.dma.index) (rawRead (dmaSource s) s) s
  { copied with dma := { copied.dma with index := copied.dma.index + 1 } }

/-- `k` bytes copied (R511). -/
def dmaCopies : Nat → State → State
  | 0, s => s
  | k + 1, s => dmaCopies k (dmaCopy s)

/-- `DmaAdvance(n)` (R511): a byte per 4 cycles, up to 160. -/
def dmaAdvance (n : Nat) (s : State) : State :=
  if s.dma.active then
    let copied := dmaCopies (min (n / 4) (160 - s.dma.index)) s
    if copied.dma.index = 160 then { copied with dma := { copied.dma with active := false } } else copied
  else s

/-- `JoypadLatch()` (R401, R520). -/
def joypadLatch (s : State) : State := if (joyInput s).edge then requestInterrupt .joypad s else s

end Sys2Proof.Machine
end

