-- ==== Sys2Proof/Machine/Fetch.lean ====
section
/-! DEFINITION. Fetching and decoding one instruction (spec/30_encoding.md R162), and placing an instruction's bytes where the next fetch reads them (the host's load; log entry 14). -/

namespace Sys2Proof.Machine

/-- Fetch the opcode byte, and the operand bytes or the second table byte its row asks for (R162). The result is the
instruction and the state with PC past it and 4 cycles counted for each byte. -/
def fetchInstr (s : State) : Instr × State :=
  let (op, s1) := fetch8 s
  match baseRow op with
  | .op i => (i, s1)
  | .d8 mk =>
    let (n, s2) := fetch8 s1
    (mk n, s2)
  | .d16 mk =>
    let (nn, s2) := fetch16 s1
    (mk nn, s2)
  | .cbTable =>
    let (cbop, s2) := fetch8 s1
    (cbInstr cbop, s2)

/-- Change the stored byte a cartridge ROM read returns (R125, R135, R144). -/
def pokeCartRom (n : Nat) (v : Byte) (s : State) : State :=
  let at_ : Nat :=
    match s.mapper with
    | .noMapper => n
    | _ => if n < 0x4000 then n else s.rom.current * 0x4000 + (n - 0x4000)
  { s with rom := { s.rom with buf := Memory.write s.rom.buf at_ v } }

/-- Change the stored byte a CPU fetch at an address reads; `none` where the CPU reads no storage there now: masked by
DMA, locked by the PPU, an I/O register, a closed or absent cartridge RAM byte, not covered. -/
def pokeFetched (addr : Word) (v : Byte) (s : State) : Option State :=
  if dmaMasks addr s then none
  else
    match regionOf addr with
    | .rom n =>
      if n < 0x100 && s.bootEnabled then some { s with bootRom := Memory.write s.bootRom n v }
      else some (pokeCartRom n v s)
    | .vram off => if vramLocked s then none else some { s with vram := bankWrite vramGeom off v s.vram }
    | .cartRam off =>
      if cartRamOpen s && decide (off < (cartRamGeom s.cfg).size) then some (mapperWriteRam off v s) else none
    | .wram off => some { s with wram := bankWrite wramGeom off v s.wram }
    | .oam off => if oamLocked s then none else some { s with oam := Memory.write s.oam off v }
    | .hram off => some { s with hram := Memory.write s.hram off v }
    | .io _ => none
    | .ie => none
    | .notCovered => none

/-- Place bytes from an address on. -/
def pokeBytes : List Byte → Word → State → Option State
  | [], _, s => some s
  | v :: vs, addr, s => (pokeFetched addr v s).bind (pokeBytes vs (addr + 1))

/-- Place bytes in high RAM and point PC there: high RAM is neither masked nor locked (R84). -/
def placeInHram (bs : List Byte) (s : State) : State := (pokeBytes bs 0xFF80 { s with pc := 0xFF80 }).getD s

/-- Place bytes where the next step fetches: at PC where the CPU reads storage there, else in high RAM. -/
def placeAtFetch (bs : List Byte) (s : State) : State :=
  let awake := { s with halted := false, fault := false }
  match pokeBytes bs awake.pc awake with
  | some placed => placed
  | none => placeInHram bs awake

end Sys2Proof.Machine
end

