-- ==== Sys2Proof/Machine/Interrupts.lean ====
section
/-! DEFINITION. The interrupt controller (spec/60_exceptions.md R402, R406 to R412): the deferred enable, the pending set, its priority, the halt wake and the entry. -/

namespace Sys2Proof.Machine

/-- `ResolveImeLatch()` (R402). -/
def resolveImeLatch (s : State) : State := if s.imePending then { s with ime := true, imePending := false } else s

/-- `IE & IF & 0x1F` (R410). -/
def pendingInterrupts (s : State) : BitVec 5 := s.ie &&& s.ifReg

/-- The lowest-numbered source of a pending set (R410, R411). -/
def highestPriority (p : BitVec 5) : Option IntSource :=
  if p.getLsbD 0 then some .vblank
  else if p.getLsbD 1 then some .stat
  else if p.getLsbD 2 then some .timer
  else if p.getLsbD 3 then some .serial
  else if p.getLsbD 4 then some .joypad
  else none

/-- `ResolveInterrupts()` (R409, R410): any enabled pending source ends the halt; with IME the one of highest priority
is entered. -/
def resolveInterrupts (s : State) : State :=
  match highestPriority (pendingInterrupts s) with
  | none => s
  | some i =>
    let awake := { s with halted := false }
    if s.ime then enterInterrupt i awake else awake

end Sys2Proof.Machine
end

