-- ==== Sys2Proof/Machine/Render.lean ====
section
/-! DEFINITION. The tile and sprite compositor (spec/61_ppu.md R452 to R463): sprite selection, tile, map, OAM and palette formats, the background and window pixel, the sprite pass, the line renderer. All reads go directly to the VRAM and OAM arrays (R460). -/

namespace Sys2Proof.Machine

/-- LCDC bits (R39). -/
def lcdcBit (k : Nat) (s : State) : Bool := s.ppu.lcdc.getLsbD k

/-- The sprite height, 16 or 8 (R452, R462). -/
def spriteHeight (s : State) : Nat := if lcdcBit 2 s then 16 else 8

/-- Byte `k` of OAM entry `i` (R457): 0 Y, 1 X, 2 tile number, 3 attributes. -/
def oamByte (i k : Nat) (s : State) : Byte := Memory.read s.oam (4 * i + k)

/-- Whether OAM entry `i` covers line `ly` (R452). -/
def spriteOnLine (ly i : Nat) (s : State) : Bool :=
  let y := (oamByte i 0 s).toNat
  decide (y ≤ ly + 16) && decide (ly + 16 < y + spriteHeight s)

/-- `SelectSprites(ly)` (R452): the first ten OAM entries on the line, in OAM order; none while sprites are off. -/
def selectSprites (ly : Nat) (s : State) : List Nat :=
  if lcdcBit 1 s then ((List.range 40).filter fun i => spriteOnLine ly i s).take 10 else []

/-- The VRAM byte at an offset from 0x8000. -/
def vramByte (off : Nat) (s : State) : Byte := Memory.read s.vram.buf off

/-- The colour index of bit `b` of a tile row's two bit planes (R455). -/
def planeIndex (lo hi : Byte) (b : Nat) : BitVec 2 := BitVec.ofBool (hi.getLsbD b) ++ BitVec.ofBool (lo.getLsbD b)

/-- The VRAM offset of background or window tile `t` (R455): unsigned from 0x8000 or signed from 0x9000. -/
def tileOffset (t : Byte) (s : State) : Nat :=
  if lcdcBit 4 s then 16 * t.toNat else (0x1000 + 16 * t.toInt).toNat

/-- The shade a palette register gives a colour index, `P[2i+1:2i]` (R41, R458). -/
def paletteShade (p : Byte) (idx : BitVec 2) : BitVec 2 := p.extractLsb' (2 * idx.toNat) 2

/-- The VRAM offset of a tile map, 0x9800 or 0x9C00 (R456). -/
def mapOffset (high : Bool) : Nat := if high then 0x1C00 else 0x1800

/-- The colour index at a map pixel: the map's tile number, then the tile's row and column (R455, R456). -/
def mapPixel (base px py : Nat) (s : State) : BitVec 2 :=
  let t := vramByte (base + 32 * (py / 8) + px / 8) s
  let row := tileOffset t s + 2 * (py % 8)
  planeIndex (vramByte row s) (vramByte (row + 1) s) (7 - px % 8)

/-- Whether a pixel lies in the window (R461). -/
def inWindow (x ly : Nat) (s : State) : Bool :=
  lcdcBit 5 s && decide (s.ppu.wy.toNat ≤ ly) && decide (s.ppu.wx.toNat ≤ x + 7)

/-- The background or window colour index of a pixel; 0 while LCDC bit 0 is clear (R461). -/
def bgWinIndex (x ly : Nat) (s : State) : BitVec 2 :=
  if lcdcBit 0 s then
    if inWindow x ly s then
      mapPixel (mapOffset (lcdcBit 6 s)) (x + 7 - s.ppu.wx.toNat) (ly - s.ppu.wy.toNat) s
    else mapPixel (mapOffset (lcdcBit 3 s)) ((x + s.ppu.scx.toNat) % 256) ((ly + s.ppu.scy.toNat) % 256) s
  else 0

/-- `BgWinPixel(x, ly)` (R461): index and shade; LCDC bit 0 clear gives shade 0, not passed through BGP. -/
def bgWinPixel (x ly : Nat) (s : State) : BitVec 2 × BitVec 2 :=
  let idx := bgWinIndex x ly s
  (idx, if lcdcBit 0 s then paletteShade s.ppu.bgp idx else 0)

/-- The colour index sprite `i` has at screen column `x` on line `ly`; `none` where its box does not cover the pixel
(R462, R463). -/
def spriteIndex (i x ly : Nat) (s : State) : Option (BitVec 2) :=
  let y := (oamByte i 0 s).toNat
  let left := (oamByte i 1 s).toNat
  let attr := oamByte i 3 s
  let h := spriteHeight s
  if y ≤ ly + 16 ∧ ly + 16 < y + h ∧ left ≤ x + 8 ∧ x + 8 < left + 8 then
    let row0 := ly + 16 - y
    let row := if attr.getLsbD 6 then h - 1 - row0 else row0
    let tile := if h = 16 then oamByte i 2 s &&& 0xFE else oamByte i 2 s
    let off := 16 * tile.toNat + 2 * row
    let col := x + 8 - left
    some (planeIndex (vramByte off s) (vramByte (off + 1) s) (if attr.getLsbD 5 then col else 7 - col))
  else none

/-- What sprite `i` does to the shade of one pixel (R462): index 0 is transparent, a `behind_bg` sprite yields to a
background index other than 0, else its palette's shade is painted over. -/
def paintSprite (x ly : Nat) (bgIdx : BitVec 2) (s : State) (shade : BitVec 2) (i : Nat) : BitVec 2 :=
  match spriteIndex i x ly s with
  | none => shade
  | some idx =>
    let attr := oamByte i 3 s
    if idx = 0 then shade
    else if attr.getLsbD 7 && bgIdx != 0 then shade
    else paletteShade (if attr.getLsbD 4 then s.ppu.obp1 else s.ppu.obp0) idx

/-- The painting order of the line's sprites (R462). -/
def spriteOrder (s : State) : List Nat :=
  match s.cfg.objDrawOrder with
  | .ascending => s.ppu.lineSprites
  | .descending => s.ppu.lineSprites.reverse

/-- The final shade of a pixel: background or window, then the sprites in order. DEDUCED: R460 and R462 write the passes
sprite by sprite; each column depends on itself alone, so the pixel is the same (log entry 10). -/
def linePixel (x ly : Nat) (s : State) : BitVec 2 :=
  let bg := bgWinPixel x ly s
  (spriteOrder s).foldl (paintSprite x ly bg.1 s) bg.2

/-- `RenderLine(ly)` (R460): the 160 pixels of row `ly` of the framebuffer. -/
def renderLine (ly : Nat) (s : State) : State :=
  { s with
    ppu := { s.ppu with
      fb := (List.range 160).foldl (fun fb x => Framebuffer.write fb (ly * 160 + x) (linePixel x ly s)) s.ppu.fb } }

/-- The packed colour of a shade (R458). -/
def ShadeColors.color (c : ShadeColors) (shade : BitVec 2) : BitVec 32 :=
  match shade.toNat with
  | 0 => c.shade0
  | 1 => c.shade1
  | 2 => c.shade2
  | _ => c.shade3

/-- Pixel `(x, y)` of the output `fb` (R14, R45, D30). -/
def fbPixel (x y : Nat) (s : State) : BitVec 32 :=
  ShadeColors.color s.cfg.shadeColor (Framebuffer.read s.ppu.fb (y * 160 + x))

end Sys2Proof.Machine
end

