-- ==== Sys2Proof/Machine/Ppu.lean ====
section
/-! DEFINITION. The PPU scanline state machine (spec/61_ppu.md R440 to R450, R464): mode lengths, the four transitions, the line compare, the disabled budget. -/

namespace Sys2Proof.Machine

/-- The STAT interrupt of a source bit of `statEn` (R40: 0 hblank_int, 1 vblank_int, 2 oam_int, 3 lyc_int). -/
def statInterrupt (k : Nat) (s : State) : State :=
  if s.ppu.statEn.getLsbD k then requestInterrupt .stat s else s

/-- `LycCheck()` (R448). -/
def lycCheck (s : State) : State := if s.ppu.ly = s.ppu.lyc then statInterrupt 3 s else s

/-- The length of a mode in dots (R442). -/
def modeLength (mode : PpuMode) (extra : Nat) : Nat :=
  match mode with
  | .oamScan => 80
  | .pixelPut => 172 + extra
  | .hBlank => 204 - extra
  | .vBlank => 456

/-- OAMScan to PixelPut (R443): the line's sprites are latched and the penalty computed (R453). -/
def enterPixelPut (s : State) : State :=
  let sel := selectSprites s.ppu.ly.toNat s
  { s with
    ppu := { s.ppu with
      lineSprites := sel
      spriteExtra := s.cfg.spritePenaltyDots.val * sel.length
      mode := .pixelPut } }

/-- PixelPut to HBlank (R444): the line is rendered. -/
def enterHBlank (s : State) : State :=
  let drawn := renderLine s.ppu.ly.toNat s
  statInterrupt 0 { drawn with ppu := { drawn.ppu with mode := .hBlank } }

/-- HBlank to the next line (R445). -/
def leaveHBlank (s : State) : State :=
  let ly := s.ppu.ly + 1
  let moved := { s with ppu := { s.ppu with ly := ly, spriteExtra := 0, lineSprites := [] } }
  lycCheck
    (if ly.toNat < 144 then statInterrupt 2 { moved with ppu := { moved.ppu with mode := .oamScan } }
     else statInterrupt 1 (requestInterrupt .vblank { moved with ppu := { moved.ppu with mode := .vBlank } }))

/-- The end of a VBlank line (R446); after line 153 the frame is complete (R464). -/
def leaveVBlankLine (s : State) : State :=
  let ly := s.ppu.ly + 1
  lycCheck
    (if ly.toNat = 154 then
      statInterrupt 2 { s with ppu := { s.ppu with ly := 0, mode := .oamScan }, frameValid := true }
     else { s with ppu := { s.ppu with ly := ly } })

/-- The transition out of the current mode (R443 to R446). -/
def ppuTransition (s : State) : State :=
  match s.ppu.mode with
  | .oamScan => enterPixelPut s
  | .pixelPut => enterHBlank s
  | .hBlank => leaveHBlank s
  | .vBlank => leaveVBlankLine s

/-- The loop of R442 with a bound on its turns; each turn uses up at least one dot, so `dot + 1` turns suffice
(log entry 12). -/
def ppuLoop : Nat → State → State
  | 0, s => s
  | turns + 1, s =>
    let len := modeLength s.ppu.mode s.ppu.spriteExtra
    if s.ppu.dot < len then s
    else ppuLoop turns (ppuTransition { s with ppu := { s.ppu with dot := s.ppu.dot - len } })

/-- `PpuTick(n)` (R442). -/
def ppuTick (n : Nat) (s : State) : State :=
  ppuLoop (s.ppu.dot + n + 1) { s with ppu := { s.ppu with dot := s.ppu.dot + n } }

/-- `PpuOffTick(n)` (R449): the excess below zero is dropped at the reload. -/
def ppuOffTick (n : Nat) (s : State) : State :=
  let left := s.ppu.offBudget - n
  if left ≤ 0 then { s with ppu := { s.ppu with offBudget := 70224 }, blankFrame := true }
  else { s with ppu := { s.ppu with offBudget := left } }

/-- `PpuAdvance(n)` (R441). -/
def ppuAdvance (n : Nat) (s : State) : State := if lcdcBit 7 s then ppuTick n s else ppuOffTick n s

end Sys2Proof.Machine
end

