-- ==== Sys2Proof/Machine/Phases.lean ====
section
/-! DEFINITION. The phases of a step around its instruction (spec/60_exceptions.md R400). -/

namespace Sys2Proof.Machine

/-- `step_cycles <- 0` and the one-step output pulses at 0 (R32, R400, R464). -/
def beginStep (s : State) : State := { s with stepCycles := 0, frameValid := false, blankFrame := false }

/-- What comes before phase 3: the joypad latch, then the deferred enable (R400 to R402). -/
def beforeInstruction (s : State) : State := resolveImeLatch (joypadLatch (beginStep s))

/-- Phase 5 (R32, R400). -/
def accumulateCycles (s : State) : State := { s with cycTotal := s.cycTotal + BitVec.ofNat 64 s.stepCycles }

/-- Phases 6 to 8, each by the whole `step_cycles` of the step (R400, R440). -/
def tickDevices (s : State) : State :=
  dmaAdvance s.stepCycles (timerAdvance s.stepCycles (ppuAdvance s.stepCycles s))

/-- The next step reads the next input sample (R520, R521; log entry 6). -/
def nextInput (s : State) : State := { s with joyInputs := s.joyInputs.tail }

/-- Phases 4 to 8 (R400). -/
def afterInstruction (s : State) : State := nextInput (tickDevices (accumulateCycles (resolveInterrupts s)))

/-- The end of a step whose instruction gave `s`: phases 4 to 8, or nothing after the fatal fault (R400, R404). -/
def finishStep (s : State) : State := if s.fault then s else afterInstruction s

end Sys2Proof.Machine
end

