-- ==== Sys2Proof/Machine/Step.lean ====
section
/-! DEFINITION. One step of the core (spec/60_exceptions.md R400), and the host's placing of an instruction at the next fetch. -/

namespace Sys2Proof.Machine

/-- The only transition of the machine (R400). With `fault = 1` there is none (R404). -/
def step (s : State) : Host.Outcome State Fault Refusal :=
  if s.fault then .fault (.illegalOpcode s.snapshot)
  else
    let ready := beforeInstruction s
    if ready.halted then .next (afterInstruction (tick 4 ready))
    else
      let fetched := fetchInstr ready
      match exec fetched.1 fetched.2 with
      | .next done => .next (finishStep done)
      | .fault r => .fault r
      | .refused r => .refused r

/-- The state with an instruction's bytes (a table value of `nbits` bits, zeros after it up to three bytes) stored where
the next step fetches, awake and without a fault (log entry 14). -/
def State.withFetchWord (s : State) (nbits w : Nat) : State :=
  placeAtFetch ((tableBytes nbits w ++ [0, 0, 0]).take 3) s

end Sys2Proof.Machine
end

