-- ==== Sys2Proof/Machine/Launch.lean ====
section
/-! DEFINITION. The launch of the machine from its parameters (spec/00_scope.md R7, R8; spec/21_cartridge_mapper.md R120 to R122) and the reset input (spec/70_reset_and_hazards.md R530). Neither is a step. -/

namespace Sys2Proof.Machine

/-- The parameters of R7. -/
structure LaunchParams where
  cartRom : List Byte
  bootRom : List Byte
  cartRamInit : List Byte
  initRam : Byte
  timerMode : TimerMode
  stopMode : StopMode
  spritePenaltyDots : Fin 21
  objDrawOrder : ObjDrawOrder
  shadeColor : ShadeColors
  mbcRamenPolicy : RamEnPolicy
  joyInputs : List JoyInput
deriving DecidableEq, Repr

/-- The mapper a header code at 0x147 selects, with its registers after reset (R121, R48, R51). -/
def mapperOfCode (code : Byte) : Option Mapper :=
  let n := code.toNat
  if n = 0x00 then some .noMapper
  else if 0x01 ≤ n ∧ n ≤ 0x03 then
    some (.mbc1 { ramEnabled := false, romBank := 1, secBank := 0, bankingMode := false })
  else if 0x0F ≤ n ∧ n ≤ 0x13 then some (.mbc3 { ramEnabled := false, romBank := 1, secBank := 0 })
  else none

/-- The RAM size a header code at 0x149 declares (R122). -/
def cartRamSizeOfCode (code : Byte) : Option CartRamSize :=
  match code.toNat with
  | 0x00 => some .none
  | 0x01 => some .kb2
  | 0x02 => some .kb8
  | 0x03 => some .kb32
  | _ => none

/-- `CART_RAM_SIZE` in bytes (R122). -/
def cartRamBytes (size : CartRamSize) : Nat := CartRamSize.bankCount size * CartRamSize.bankSize size

/-- Whether a ROM image of this length may be launched with this mapper (R122). -/
def romLengthAllowed (len : Nat) (m : Mapper) : Bool :=
  len % 0x4000 == 0 && decide (0x8000 ≤ len) && (m != .noMapper || len == 0x8000)

/-- The state after reset for given launch constants and images (R51). -/
def resetState (cfg : Config) (mapper : Mapper) (rom bootRom cartRam : Memory) (inputs : List JoyInput) : State :=
  { State.reset with
    cfg := cfg
    mapper := mapper
    rom := { buf := rom, current := 1 }
    bootRom := bootRom
    cartRam := { buf := cartRam, current := 0 }
    vram := { buf := Memory.filled 0x2000 cfg.initRam, current := 0 }
    wram := { buf := Memory.filled 0x2000 cfg.initRam, current := 0 }
    oam := Memory.filled 160 cfg.initRam
    hram := Memory.filled 127 cfg.initRam
    joyInputs := inputs }

/-- Launch (R7, R8, R121, R122): the header selects the mapper and the RAM size once; an image or code outside the
tables is refused by name. -/
def launch (p : LaunchParams) : Host.Outcome State Fault Refusal :=
  if p.bootRom.length ≠ 256 then .refused .launchBootRomSize
  else
    match mapperOfCode (p.cartRom.getD 0x147 0) with
    | none => .refused (.launchMapperCode (p.cartRom.getD 0x147 0))
    | some mapper =>
      if romLengthAllowed p.cartRom.length mapper then
        match cartRamSizeOfCode (p.cartRom.getD 0x149 0) with
        | none => .refused (.launchRamCode (p.cartRom.getD 0x149 0))
        | some size =>
          if p.cartRamInit.length = cartRamBytes size then
            let cfg : Config :=
              { romBankCount := p.cartRom.length / 0x4000
                cartRamSize := size
                initRam := p.initRam
                timerMode := p.timerMode
                stopMode := p.stopMode
                spritePenaltyDots := p.spritePenaltyDots
                objDrawOrder := p.objDrawOrder
                shadeColor := p.shadeColor
                mbcRamenPolicy := p.mbcRamenPolicy }
            .next
              (resetState cfg mapper (Memory.ofBytes p.cartRom) (Memory.ofBytes p.bootRom)
                (Memory.ofBytes p.cartRamInit) p.joyInputs)
          else .refused .launchCartRamInitSize
      else .refused .launchRomSize

/-- The mapper's registers after reset, its kind kept (R48, R51, R530). -/
def mapperAfterReset : Mapper → Mapper
  | .noMapper => .noMapper
  | .mbc1 _ => .mbc1 { ramEnabled := false, romBank := 1, secBank := 0, bankingMode := false }
  | .mbc3 _ => .mbc3 { ramEnabled := false, romBank := 1, secBank := 0 }

/-- The reset input `rst` (R530): every piece of state as R51 lists it, launch constants and images kept, cartridge RAM
contents kept, every other memory refilled. The host's coming inputs are not the machine's and stay (log entry 16). -/
def State.rst (s : State) : State :=
  resetState s.cfg (mapperAfterReset s.mapper) s.rom.buf s.bootRom s.cartRam.buf s.joyInputs

end Sys2Proof.Machine
end

