-- ==== Sys2Proof/Machine/Forms.lean ====
section
/-! DEFINITION. The constructors of Instr by the operand fields of their rule: which constructor a rule's form is for each operand, and the field values of R163 to R166. Statements over "every register" or "every operand form" name their instructions with these. -/

namespace Sys2Proof.Machine.Forms

/-- The index of a register in the table `r8` (spec/30_encoding.md R163). -/
def reg8Code : Reg8 → Byte
  | .b => 0
  | .c => 1
  | .d => 2
  | .e => 3
  | .h => 4
  | .l => 5
  | .a => 7

/-- The index of an operand in the table `r8`, `(HL)` at 6 (R163). -/
def operand8Code : Operand8 → Byte
  | .reg r => reg8Code r
  | .atHL => 6

/-- The index of a pair in the table `r16` (R164). -/
def reg16Code : Reg16 → Byte
  | .bc => 0
  | .de => 1
  | .hl => 2
  | .sp => 3

/-- The index of a pair in the table `r16stk` (R164). -/
def stackRegCode : StackReg → Byte
  | .bc => 0
  | .de => 1
  | .hl => 2
  | .af => 3

/-- The index of a condition in the table `cc` (R165). -/
def condCode : Cond → Byte
  | .nz => 0
  | .z => 1
  | .nc => 2
  | .c => 3

/-- The index of an ALU operation (R166). -/
def aluCode : AluOp → Byte
  | .add => 0
  | .adc => 1
  | .sub => 2
  | .sbc => 3
  | .and => 4
  | .xor => 5
  | .or => 6
  | .cp => 7

/-- The index of a shift or rotate (R166). -/
def rotCode : RotOp → Byte
  | .rlc => 0
  | .rrc => 1
  | .rl => 2
  | .rr => 3
  | .sla => 4
  | .sra => 5
  | .swap => 6
  | .srl => 7

/-- The second operand of an ALU instruction (R252): a register, `(HL)` or `d8`. -/
inductive AluSrc
  | reg (r : Reg8)
  | atHL
  | imm (d8 : Byte)
deriving DecidableEq, Repr

/-- `LD r,r'` (R201). -/
def ldRegReg : Reg8 → Reg8 → Instr
  | .b, .b => .ld_B_B
  | .b, .c => .ld_B_C
  | .b, .d => .ld_B_D
  | .b, .e => .ld_B_E
  | .b, .h => .ld_B_H
  | .b, .l => .ld_B_L
  | .b, .a => .ld_B_A
  | .c, .b => .ld_C_B
  | .c, .c => .ld_C_C
  | .c, .d => .ld_C_D
  | .c, .e => .ld_C_E
  | .c, .h => .ld_C_H
  | .c, .l => .ld_C_L
  | .c, .a => .ld_C_A
  | .d, .b => .ld_D_B
  | .d, .c => .ld_D_C
  | .d, .d => .ld_D_D
  | .d, .e => .ld_D_E
  | .d, .h => .ld_D_H
  | .d, .l => .ld_D_L
  | .d, .a => .ld_D_A
  | .e, .b => .ld_E_B
  | .e, .c => .ld_E_C
  | .e, .d => .ld_E_D
  | .e, .e => .ld_E_E
  | .e, .h => .ld_E_H
  | .e, .l => .ld_E_L
  | .e, .a => .ld_E_A
  | .h, .b => .ld_H_B
  | .h, .c => .ld_H_C
  | .h, .d => .ld_H_D
  | .h, .e => .ld_H_E
  | .h, .h => .ld_H_H
  | .h, .l => .ld_H_L
  | .h, .a => .ld_H_A
  | .l, .b => .ld_L_B
  | .l, .c => .ld_L_C
  | .l, .d => .ld_L_D
  | .l, .e => .ld_L_E
  | .l, .h => .ld_L_H
  | .l, .l => .ld_L_L
  | .l, .a => .ld_L_A
  | .a, .b => .ld_A_B
  | .a, .c => .ld_A_C
  | .a, .d => .ld_A_D
  | .a, .e => .ld_A_E
  | .a, .h => .ld_A_H
  | .a, .l => .ld_A_L
  | .a, .a => .ld_A_A

/-- `LD r,d8` (R202). -/
def ldRegImm : Reg8 → Byte → Instr
  | .b, d8 => .ld_B_d8 d8
  | .c, d8 => .ld_C_d8 d8
  | .d, d8 => .ld_D_d8 d8
  | .e, d8 => .ld_E_d8 d8
  | .h, d8 => .ld_H_d8 d8
  | .l, d8 => .ld_L_d8 d8
  | .a, d8 => .ld_A_d8 d8

/-- `LD r,(HL)` (R203). -/
def ldRegAtHL : Reg8 → Instr
  | .b => .ld_B_atHL
  | .c => .ld_C_atHL
  | .d => .ld_D_atHL
  | .e => .ld_E_atHL
  | .h => .ld_H_atHL
  | .l => .ld_L_atHL
  | .a => .ld_A_atHL

/-- `LD (HL),r` (R204). -/
def ldAtHLReg : Reg8 → Instr
  | .b => .ld_atHL_B
  | .c => .ld_atHL_C
  | .d => .ld_atHL_D
  | .e => .ld_atHL_E
  | .h => .ld_atHL_H
  | .l => .ld_atHL_L
  | .a => .ld_atHL_A

/-- `LD rr,d16` (R230). -/
def ldReg16Imm : Reg16 → Word → Instr
  | .bc, d16 => .ld_BC_d16 d16
  | .de, d16 => .ld_DE_d16 d16
  | .hl, d16 => .ld_HL_d16 d16
  | .sp, d16 => .ld_SP_d16 d16

/-- `PUSH rr` (R234). -/
def push : StackReg → Instr
  | .bc => .push_BC
  | .de => .push_DE
  | .hl => .push_HL
  | .af => .push_AF

/-- `POP rr` (R235, R236). -/
def pop : StackReg → Instr
  | .bc => .pop_BC
  | .de => .pop_DE
  | .hl => .pop_HL
  | .af => .pop_AF

/-- `alu A,x` (R252, R260 to R283). -/
def alu : AluOp → AluSrc → Instr
  | .add, .reg .b => .add_A_B
  | .add, .reg .c => .add_A_C
  | .add, .reg .d => .add_A_D
  | .add, .reg .e => .add_A_E
  | .add, .reg .h => .add_A_H
  | .add, .reg .l => .add_A_L
  | .add, .reg .a => .add_A_A
  | .add, .atHL => .add_A_atHL
  | .add, .imm d8 => .add_A_d8 d8
  | .adc, .reg .b => .adc_A_B
  | .adc, .reg .c => .adc_A_C
  | .adc, .reg .d => .adc_A_D
  | .adc, .reg .e => .adc_A_E
  | .adc, .reg .h => .adc_A_H
  | .adc, .reg .l => .adc_A_L
  | .adc, .reg .a => .adc_A_A
  | .adc, .atHL => .adc_A_atHL
  | .adc, .imm d8 => .adc_A_d8 d8
  | .sub, .reg .b => .sub_A_B
  | .sub, .reg .c => .sub_A_C
  | .sub, .reg .d => .sub_A_D
  | .sub, .reg .e => .sub_A_E
  | .sub, .reg .h => .sub_A_H
  | .sub, .reg .l => .sub_A_L
  | .sub, .reg .a => .sub_A_A
  | .sub, .atHL => .sub_A_atHL
  | .sub, .imm d8 => .sub_A_d8 d8
  | .sbc, .reg .b => .sbc_A_B
  | .sbc, .reg .c => .sbc_A_C
  | .sbc, .reg .d => .sbc_A_D
  | .sbc, .reg .e => .sbc_A_E
  | .sbc, .reg .h => .sbc_A_H
  | .sbc, .reg .l => .sbc_A_L
  | .sbc, .reg .a => .sbc_A_A
  | .sbc, .atHL => .sbc_A_atHL
  | .sbc, .imm d8 => .sbc_A_d8 d8
  | .and, .reg .b => .and_A_B
  | .and, .reg .c => .and_A_C
  | .and, .reg .d => .and_A_D
  | .and, .reg .e => .and_A_E
  | .and, .reg .h => .and_A_H
  | .and, .reg .l => .and_A_L
  | .and, .reg .a => .and_A_A
  | .and, .atHL => .and_A_atHL
  | .and, .imm d8 => .and_A_d8 d8
  | .xor, .reg .b => .xor_A_B
  | .xor, .reg .c => .xor_A_C
  | .xor, .reg .d => .xor_A_D
  | .xor, .reg .e => .xor_A_E
  | .xor, .reg .h => .xor_A_H
  | .xor, .reg .l => .xor_A_L
  | .xor, .reg .a => .xor_A_A
  | .xor, .atHL => .xor_A_atHL
  | .xor, .imm d8 => .xor_A_d8 d8
  | .or, .reg .b => .or_A_B
  | .or, .reg .c => .or_A_C
  | .or, .reg .d => .or_A_D
  | .or, .reg .e => .or_A_E
  | .or, .reg .h => .or_A_H
  | .or, .reg .l => .or_A_L
  | .or, .reg .a => .or_A_A
  | .or, .atHL => .or_A_atHL
  | .or, .imm d8 => .or_A_d8 d8
  | .cp, .reg .b => .cp_A_B
  | .cp, .reg .c => .cp_A_C
  | .cp, .reg .d => .cp_A_D
  | .cp, .reg .e => .cp_A_E
  | .cp, .reg .h => .cp_A_H
  | .cp, .reg .l => .cp_A_L
  | .cp, .reg .a => .cp_A_A
  | .cp, .atHL => .cp_A_atHL
  | .cp, .imm d8 => .cp_A_d8 d8

/-- `INC r`, `INC (HL)` (R284, R285). -/
def inc8 : Operand8 → Instr
  | .reg .b => .inc_B
  | .reg .c => .inc_C
  | .reg .d => .inc_D
  | .reg .e => .inc_E
  | .reg .h => .inc_H
  | .reg .l => .inc_L
  | .reg .a => .inc_A
  | .atHL => .inc_atHL

/-- `INC rr` (R300). -/
def inc16 : Reg16 → Instr
  | .bc => .inc_BC
  | .de => .inc_DE
  | .hl => .inc_HL
  | .sp => .inc_SP

/-- `DEC r`, `DEC (HL)` (R286, R287). -/
def dec8 : Operand8 → Instr
  | .reg .b => .dec_B
  | .reg .c => .dec_C
  | .reg .d => .dec_D
  | .reg .e => .dec_E
  | .reg .h => .dec_H
  | .reg .l => .dec_L
  | .reg .a => .dec_A
  | .atHL => .dec_atHL

/-- `DEC rr` (R301). -/
def dec16 : Reg16 → Instr
  | .bc => .dec_BC
  | .de => .dec_DE
  | .hl => .dec_HL
  | .sp => .dec_SP

/-- `ADD HL,rr` (R302). -/
def addHL : Reg16 → Instr
  | .bc => .add_HL_BC
  | .de => .add_HL_DE
  | .hl => .add_HL_HL
  | .sp => .add_HL_SP

/-- The CB shifts and rotates (R318 to R333). -/
def rot : RotOp → Operand8 → Instr
  | .rlc, .reg .b => .rlc_B
  | .rlc, .reg .c => .rlc_C
  | .rlc, .reg .d => .rlc_D
  | .rlc, .reg .e => .rlc_E
  | .rlc, .reg .h => .rlc_H
  | .rlc, .reg .l => .rlc_L
  | .rlc, .reg .a => .rlc_A
  | .rlc, .atHL => .rlc_atHL
  | .rrc, .reg .b => .rrc_B
  | .rrc, .reg .c => .rrc_C
  | .rrc, .reg .d => .rrc_D
  | .rrc, .reg .e => .rrc_E
  | .rrc, .reg .h => .rrc_H
  | .rrc, .reg .l => .rrc_L
  | .rrc, .reg .a => .rrc_A
  | .rrc, .atHL => .rrc_atHL
  | .rl, .reg .b => .rl_B
  | .rl, .reg .c => .rl_C
  | .rl, .reg .d => .rl_D
  | .rl, .reg .e => .rl_E
  | .rl, .reg .h => .rl_H
  | .rl, .reg .l => .rl_L
  | .rl, .reg .a => .rl_A
  | .rl, .atHL => .rl_atHL
  | .rr, .reg .b => .rr_B
  | .rr, .reg .c => .rr_C
  | .rr, .reg .d => .rr_D
  | .rr, .reg .e => .rr_E
  | .rr, .reg .h => .rr_H
  | .rr, .reg .l => .rr_L
  | .rr, .reg .a => .rr_A
  | .rr, .atHL => .rr_atHL
  | .sla, .reg .b => .sla_B
  | .sla, .reg .c => .sla_C
  | .sla, .reg .d => .sla_D
  | .sla, .reg .e => .sla_E
  | .sla, .reg .h => .sla_H
  | .sla, .reg .l => .sla_L
  | .sla, .reg .a => .sla_A
  | .sla, .atHL => .sla_atHL
  | .sra, .reg .b => .sra_B
  | .sra, .reg .c => .sra_C
  | .sra, .reg .d => .sra_D
  | .sra, .reg .e => .sra_E
  | .sra, .reg .h => .sra_H
  | .sra, .reg .l => .sra_L
  | .sra, .reg .a => .sra_A
  | .sra, .atHL => .sra_atHL
  | .swap, .reg .b => .swap_B
  | .swap, .reg .c => .swap_C
  | .swap, .reg .d => .swap_D
  | .swap, .reg .e => .swap_E
  | .swap, .reg .h => .swap_H
  | .swap, .reg .l => .swap_L
  | .swap, .reg .a => .swap_A
  | .swap, .atHL => .swap_atHL
  | .srl, .reg .b => .srl_B
  | .srl, .reg .c => .srl_C
  | .srl, .reg .d => .srl_D
  | .srl, .reg .e => .srl_E
  | .srl, .reg .h => .srl_H
  | .srl, .reg .l => .srl_L
  | .srl, .reg .a => .srl_A
  | .srl, .atHL => .srl_atHL

/-- `BIT b,x` (R334, R335). -/
def bit : Fin 8 → Operand8 → Instr
  | 0, .reg .b => .bit_0_B
  | 0, .reg .c => .bit_0_C
  | 0, .reg .d => .bit_0_D
  | 0, .reg .e => .bit_0_E
  | 0, .reg .h => .bit_0_H
  | 0, .reg .l => .bit_0_L
  | 0, .reg .a => .bit_0_A
  | 0, .atHL => .bit_0_atHL
  | 1, .reg .b => .bit_1_B
  | 1, .reg .c => .bit_1_C
  | 1, .reg .d => .bit_1_D
  | 1, .reg .e => .bit_1_E
  | 1, .reg .h => .bit_1_H
  | 1, .reg .l => .bit_1_L
  | 1, .reg .a => .bit_1_A
  | 1, .atHL => .bit_1_atHL
  | 2, .reg .b => .bit_2_B
  | 2, .reg .c => .bit_2_C
  | 2, .reg .d => .bit_2_D
  | 2, .reg .e => .bit_2_E
  | 2, .reg .h => .bit_2_H
  | 2, .reg .l => .bit_2_L
  | 2, .reg .a => .bit_2_A
  | 2, .atHL => .bit_2_atHL
  | 3, .reg .b => .bit_3_B
  | 3, .reg .c => .bit_3_C
  | 3, .reg .d => .bit_3_D
  | 3, .reg .e => .bit_3_E
  | 3, .reg .h => .bit_3_H
  | 3, .reg .l => .bit_3_L
  | 3, .reg .a => .bit_3_A
  | 3, .atHL => .bit_3_atHL
  | 4, .reg .b => .bit_4_B
  | 4, .reg .c => .bit_4_C
  | 4, .reg .d => .bit_4_D
  | 4, .reg .e => .bit_4_E
  | 4, .reg .h => .bit_4_H
  | 4, .reg .l => .bit_4_L
  | 4, .reg .a => .bit_4_A
  | 4, .atHL => .bit_4_atHL
  | 5, .reg .b => .bit_5_B
  | 5, .reg .c => .bit_5_C
  | 5, .reg .d => .bit_5_D
  | 5, .reg .e => .bit_5_E
  | 5, .reg .h => .bit_5_H
  | 5, .reg .l => .bit_5_L
  | 5, .reg .a => .bit_5_A
  | 5, .atHL => .bit_5_atHL
  | 6, .reg .b => .bit_6_B
  | 6, .reg .c => .bit_6_C
  | 6, .reg .d => .bit_6_D
  | 6, .reg .e => .bit_6_E
  | 6, .reg .h => .bit_6_H
  | 6, .reg .l => .bit_6_L
  | 6, .reg .a => .bit_6_A
  | 6, .atHL => .bit_6_atHL
  | 7, .reg .b => .bit_7_B
  | 7, .reg .c => .bit_7_C
  | 7, .reg .d => .bit_7_D
  | 7, .reg .e => .bit_7_E
  | 7, .reg .h => .bit_7_H
  | 7, .reg .l => .bit_7_L
  | 7, .reg .a => .bit_7_A
  | 7, .atHL => .bit_7_atHL

/-- `RES b,x` (R336, R337). -/
def res : Fin 8 → Operand8 → Instr
  | 0, .reg .b => .res_0_B
  | 0, .reg .c => .res_0_C
  | 0, .reg .d => .res_0_D
  | 0, .reg .e => .res_0_E
  | 0, .reg .h => .res_0_H
  | 0, .reg .l => .res_0_L
  | 0, .reg .a => .res_0_A
  | 0, .atHL => .res_0_atHL
  | 1, .reg .b => .res_1_B
  | 1, .reg .c => .res_1_C
  | 1, .reg .d => .res_1_D
  | 1, .reg .e => .res_1_E
  | 1, .reg .h => .res_1_H
  | 1, .reg .l => .res_1_L
  | 1, .reg .a => .res_1_A
  | 1, .atHL => .res_1_atHL
  | 2, .reg .b => .res_2_B
  | 2, .reg .c => .res_2_C
  | 2, .reg .d => .res_2_D
  | 2, .reg .e => .res_2_E
  | 2, .reg .h => .res_2_H
  | 2, .reg .l => .res_2_L
  | 2, .reg .a => .res_2_A
  | 2, .atHL => .res_2_atHL
  | 3, .reg .b => .res_3_B
  | 3, .reg .c => .res_3_C
  | 3, .reg .d => .res_3_D
  | 3, .reg .e => .res_3_E
  | 3, .reg .h => .res_3_H
  | 3, .reg .l => .res_3_L
  | 3, .reg .a => .res_3_A
  | 3, .atHL => .res_3_atHL
  | 4, .reg .b => .res_4_B
  | 4, .reg .c => .res_4_C
  | 4, .reg .d => .res_4_D
  | 4, .reg .e => .res_4_E
  | 4, .reg .h => .res_4_H
  | 4, .reg .l => .res_4_L
  | 4, .reg .a => .res_4_A
  | 4, .atHL => .res_4_atHL
  | 5, .reg .b => .res_5_B
  | 5, .reg .c => .res_5_C
  | 5, .reg .d => .res_5_D
  | 5, .reg .e => .res_5_E
  | 5, .reg .h => .res_5_H
  | 5, .reg .l => .res_5_L
  | 5, .reg .a => .res_5_A
  | 5, .atHL => .res_5_atHL
  | 6, .reg .b => .res_6_B
  | 6, .reg .c => .res_6_C
  | 6, .reg .d => .res_6_D
  | 6, .reg .e => .res_6_E
  | 6, .reg .h => .res_6_H
  | 6, .reg .l => .res_6_L
  | 6, .reg .a => .res_6_A
  | 6, .atHL => .res_6_atHL
  | 7, .reg .b => .res_7_B
  | 7, .reg .c => .res_7_C
  | 7, .reg .d => .res_7_D
  | 7, .reg .e => .res_7_E
  | 7, .reg .h => .res_7_H
  | 7, .reg .l => .res_7_L
  | 7, .reg .a => .res_7_A
  | 7, .atHL => .res_7_atHL

/-- `SET b,x` (R338, R339). -/
def set : Fin 8 → Operand8 → Instr
  | 0, .reg .b => .set_0_B
  | 0, .reg .c => .set_0_C
  | 0, .reg .d => .set_0_D
  | 0, .reg .e => .set_0_E
  | 0, .reg .h => .set_0_H
  | 0, .reg .l => .set_0_L
  | 0, .reg .a => .set_0_A
  | 0, .atHL => .set_0_atHL
  | 1, .reg .b => .set_1_B
  | 1, .reg .c => .set_1_C
  | 1, .reg .d => .set_1_D
  | 1, .reg .e => .set_1_E
  | 1, .reg .h => .set_1_H
  | 1, .reg .l => .set_1_L
  | 1, .reg .a => .set_1_A
  | 1, .atHL => .set_1_atHL
  | 2, .reg .b => .set_2_B
  | 2, .reg .c => .set_2_C
  | 2, .reg .d => .set_2_D
  | 2, .reg .e => .set_2_E
  | 2, .reg .h => .set_2_H
  | 2, .reg .l => .set_2_L
  | 2, .reg .a => .set_2_A
  | 2, .atHL => .set_2_atHL
  | 3, .reg .b => .set_3_B
  | 3, .reg .c => .set_3_C
  | 3, .reg .d => .set_3_D
  | 3, .reg .e => .set_3_E
  | 3, .reg .h => .set_3_H
  | 3, .reg .l => .set_3_L
  | 3, .reg .a => .set_3_A
  | 3, .atHL => .set_3_atHL
  | 4, .reg .b => .set_4_B
  | 4, .reg .c => .set_4_C
  | 4, .reg .d => .set_4_D
  | 4, .reg .e => .set_4_E
  | 4, .reg .h => .set_4_H
  | 4, .reg .l => .set_4_L
  | 4, .reg .a => .set_4_A
  | 4, .atHL => .set_4_atHL
  | 5, .reg .b => .set_5_B
  | 5, .reg .c => .set_5_C
  | 5, .reg .d => .set_5_D
  | 5, .reg .e => .set_5_E
  | 5, .reg .h => .set_5_H
  | 5, .reg .l => .set_5_L
  | 5, .reg .a => .set_5_A
  | 5, .atHL => .set_5_atHL
  | 6, .reg .b => .set_6_B
  | 6, .reg .c => .set_6_C
  | 6, .reg .d => .set_6_D
  | 6, .reg .e => .set_6_E
  | 6, .reg .h => .set_6_H
  | 6, .reg .l => .set_6_L
  | 6, .reg .a => .set_6_A
  | 6, .atHL => .set_6_atHL
  | 7, .reg .b => .set_7_B
  | 7, .reg .c => .set_7_C
  | 7, .reg .d => .set_7_D
  | 7, .reg .e => .set_7_E
  | 7, .reg .h => .set_7_H
  | 7, .reg .l => .set_7_L
  | 7, .reg .a => .set_7_A
  | 7, .atHL => .set_7_atHL

/-- `JP cc,a16` (R352). -/
def jpIf : Cond → Word → Instr
  | .nz, a16 => .jp_NZ_a16 a16
  | .z, a16 => .jp_Z_a16 a16
  | .nc, a16 => .jp_NC_a16 a16
  | .c, a16 => .jp_C_a16 a16

/-- `JR cc,e8` (R355). -/
def jrIf : Cond → Byte → Instr
  | .nz, e8 => .jr_NZ_e8 e8
  | .z, e8 => .jr_Z_e8 e8
  | .nc, e8 => .jr_NC_e8 e8
  | .c, e8 => .jr_C_e8 e8

/-- `CALL cc,a16` (R357). -/
def callIf : Cond → Word → Instr
  | .nz, a16 => .call_NZ_a16 a16
  | .z, a16 => .call_Z_a16 a16
  | .nc, a16 => .call_NC_a16 a16
  | .c, a16 => .call_C_a16 a16

/-- `RET cc` (R359). -/
def retIf : Cond → Instr
  | .nz => .ret_NZ
  | .z => .ret_Z
  | .nc => .ret_NC
  | .c => .ret_C

/-- `RST 8*y` (R360). -/
def rst : Fin 8 → Instr
  | 0 => .rst_00H
  | 1 => .rst_08H
  | 2 => .rst_10H
  | 3 => .rst_18H
  | 4 => .rst_20H
  | 5 => .rst_28H
  | 6 => .rst_30H
  | 7 => .rst_38H

end Sys2Proof.Machine.Forms
end

