-- ==== Sys2Proof/Safety.lean ====
section
/-! DEFINITION. The terms the statements use: the invariant of the machine, what an instruction's frame says, what a bus write may change, the cycles of an instruction, when a run has ended. -/

namespace Sys2Proof.Machine

/-- Every key of a list lies below its size. -/
def Sparse.within {α : Type} (size : Nat) (m : List (Nat × α)) : Bool := m.all fun c => decide (c.1 < size)

/-- Every offset of a byte memory lies below its size. -/
abbrev Memory.within (size : Nat) (m : Memory) : Bool := Sparse.within size m

/-- Every index of the framebuffer is one of its 160 times 144 pixels (spec/10_state.md R45). -/
abbrev Framebuffer.within (m : Framebuffer) : Bool := Sparse.within (160 * 144) m

/-- Every memory and the framebuffer are in canonical form. -/
def memoriesWf (s : State) : Prop :=
  Memory.wf s.rom.buf ∧ Memory.wf s.bootRom ∧ Memory.wf s.vram.buf ∧ Memory.wf s.cartRam.buf ∧ Memory.wf s.wram.buf ∧
    Memory.wf s.oam ∧ Memory.wf s.hram ∧ Framebuffer.wf s.ppu.fb

/-- Every memory and the framebuffer hold nothing past their size (spec/10_state.md R45, R46, spec/00_scope.md R8,
spec/21_cartridge_mapper.md R122). -/
def memoriesWithin (s : State) : Prop :=
  Memory.within (s.cfg.romBankCount * 0x4000) s.rom.buf = true ∧ Memory.within 256 s.bootRom = true ∧
    Memory.within 0x2000 s.vram.buf = true ∧
    Memory.within (CartRamSize.bankCount s.cfg.cartRamSize * CartRamSize.bankSize s.cfg.cartRamSize) s.cartRam.buf = true ∧
    Memory.within 0x2000 s.wram.buf = true ∧ Memory.within 160 s.oam = true ∧ Memory.within 127 s.hram = true ∧
    Framebuffer.within s.ppu.fb = true

/-- F's low nibble is 0 (spec/10_state.md R22). -/
def flagNibbleClear (s : State) : Prop := s.regs.f &&& 0x0F = 0

/-- `current_bank < bank_count` in every banked memory that exists (spec/10_state.md R47). -/
def banksInRange (s : State) : Prop :=
  s.rom.current < s.cfg.romBankCount ∧ s.vram.current = 0 ∧ s.wram.current = 0 ∧
    (s.cfg.cartRamSize ≠ .none → s.cartRam.current < CartRamSize.bankCount s.cfg.cartRamSize)

/-- The ranges of the PPU's state (spec/10_state.md R42, R45; spec/61_ppu.md R442 to R449, R453). -/
def ppuInRange (s : State) : Prop :=
  s.ppu.ly.toNat ≤ 153 ∧
    (s.ppu.mode = .vBlank ↔ 144 ≤ s.ppu.ly.toNat) ∧
    s.ppu.dot < modeLength s.ppu.mode s.ppu.spriteExtra ∧
    s.ppu.lineSprites.length ≤ 10 ∧
    (∀ i ∈ s.ppu.lineSprites, i < 40) ∧
    s.ppu.spriteExtra = s.cfg.spritePenaltyDots.val * s.ppu.lineSprites.length ∧
    (s.ppu.mode = .oamScan ∨ s.ppu.mode = .vBlank → s.ppu.lineSprites = []) ∧
    (lcdcBit 7 s = false →
      s.ppu.mode = .hBlank ∧ s.ppu.ly = 0 ∧ s.ppu.dot = 0 ∧ s.ppu.lineSprites = []) ∧
    0 < s.ppu.offBudget ∧ s.ppu.offBudget ≤ 70224

/-- The range of the DMA engine's index (spec/10_state.md R43, spec/62_timer_dma_joypad.md R511). -/
def dmaInRange (s : State) : Prop := s.dma.index ≤ 160 ∧ (s.dma.active = true → s.dma.index < 160)

/-- The invariant of the machine: what reset establishes and every step keeps. -/
def Inv (s : State) : Prop :=
  memoriesWf s ∧ memoriesWithin s ∧ flagNibbleClear s ∧ banksInRange s ∧ ppuInRange s ∧ dmaInRange s

/-- An instruction of `len` bytes costs `total` cycles in all (spec/70_reset_and_hazards.md R545): its bytes are fetched
and counted before its meaning runs in `s`, the rest is counted when it has run. -/
def takes (total len : Nat) (s t : State) : Prop := t.stepCycles + 4 * len = s.stepCycles + total

/-- The bytes are an encoding of the instruction, whatever follows them. -/
def encodes (bytes : List Byte) (i : Instr) : Prop := ∀ rest, decode (bytes ++ rest) = .instr i rest

/-- Every byte a read can return is the same (the raw read of R95, so neither mask nor lockout hides a change). -/
def sameMemory (s t : State) : Prop := ∀ x : Word, rawRead x t = rawRead x s

/-- Every register of `r8` outside the list is the same. -/
def regsKeptExcept (rs : List Reg8) (s t : State) : Prop := ∀ r : Reg8, r ∉ rs → readReg8 r t = readReg8 r s

/-- F is the same. -/
def flagsKept (s t : State) : Prop := t.regs.f = s.regs.f

/-- F holds exactly these flags: Z, N, H, C in bits 7 to 4 and 0 below (R22, R27). -/
def flagsAre (z n h c : Bool) (t : State) : Prop :=
  flagZ t = z ∧ flagN t = n ∧ flagH t = h ∧ flagC t = c ∧ t.regs.f &&& 0x0F = 0

/-- Nothing but A to L, F and the cycle count changes: PC, SP, every control bit, every memory and every device register
is the same. -/
def onlyRegsChange (s t : State) : Prop :=
  t = { s with regs := t.regs, stepCycles := t.stepCycles } ∧ sameMemory s t

/-- Nothing but A to L, F, SP and the cycle count changes. -/
def onlyRegsSpChange (s t : State) : Prop :=
  t = { s with regs := t.regs, sp := t.sp, stepCycles := t.stepCycles } ∧ sameMemory s t

/-- Nothing but PC and the cycle count changes. -/
def onlyPcChanges (s t : State) : Prop := t = { s with pc := t.pc, stepCycles := t.stepCycles } ∧ sameMemory s t

/-- Whether a CPU write to `a` may change what a read of `x` returns: the byte itself under every name it has (echo RAM,
R80); for a mapper command the switchable ROM bank and cartridge RAM (R120); for LCDC also LY and STAT (R447), for LYC
also STAT (R40), for BOOT the bytes under the overlay (R76); for an address that is not covered nothing (R83). -/
def writeTouches (a x : Word) : Bool :=
  match regionOf a with
  | .rom _ => (decide (0x4000 ≤ x.toNat) && decide (x.toNat < 0x8000)) ||
      (decide (0xA000 ≤ x.toNat) && decide (x.toNat < 0xC000))
  | .io .lcdc => x == 0xFF40 || x == 0xFF41 || x == 0xFF44
  | .io .lyc => x == 0xFF45 || x == 0xFF41
  | .io .boot => decide (x.toNat < 0x100)
  | .notCovered => false
  | r => regionOf x == r

/-- Every byte outside what a write to one of these addresses may change is the same. -/
def memoryKeptExcept (as : List Word) (s t : State) : Prop :=
  ∀ x : Word, (∀ a ∈ as, writeTouches a x = false) → rawRead x t = rawRead x s

/-- What no bus write changes: the registers, PC, SP, the CPU's control bits, the counters, the read-only images, the
outputs, the inputs and the constants. -/
def cpuKept (s t : State) : Prop :=
  t.regs = s.regs ∧ t.pc = s.pc ∧ t.sp = s.sp ∧ t.ime = s.ime ∧ t.imePending = s.imePending ∧ t.halted = s.halted ∧
    t.fault = s.fault ∧ t.snapshot = s.snapshot ∧ t.cycTotal = s.cycTotal ∧ t.rom.buf = s.rom.buf ∧
    t.bootRom = s.bootRom ∧ t.frameValid = s.frameValid ∧ t.blankFrame = s.blankFrame ∧ t.ppu.fb = s.ppu.fb ∧
    t.joyInputs = s.joyInputs ∧ t.cfg = s.cfg

/-- The instruction stores one byte over the bus, at this address, and changes besides only A to L, F and the cycle
count. The memory clause assumes the canonical form (`memoriesWf`, kept by every step). -/
def storesByte (a : Word) (v : Byte) (s t : State) : Prop :=
  t = { busWrite a v s with regs := t.regs, stepCycles := t.stepCycles } ∧ (memoriesWf s → memoryKeptExcept [a] s t)

/-- The instruction stores two bytes over the bus, the one at `a1` first, and changes besides only A to L, F, PC, SP and
the cycle count. -/
def storesTwo (a1 : Word) (v1 : Byte) (a2 : Word) (v2 : Byte) (s t : State) : Prop :=
  t = { busWrite a2 v2 (busWrite a1 v1 s) with regs := t.regs, pc := t.pc, sp := t.sp, stepCycles := t.stepCycles } ∧
    (memoriesWf s → memoryKeptExcept [a1, a2] s t)

/-- `Push16(v)` (spec/00_scope.md R10): high byte at SP - 1, then low byte at SP - 2; SP ends 2 lower. -/
def pushesWord (v : Word) (s t : State) : Prop :=
  storesTwo (s.sp - 1) (v.extractLsb' 8 8) (s.sp - 2) (v.extractLsb' 0 8) s t ∧ t.sp = s.sp - 2

/-- The word `Pop16()` returns: low byte at SP, high byte at SP + 1 (spec/00_scope.md R10). -/
def poppedWord (s : State) : Word := busRead (s.sp + 1) s ++ busRead s.sp s

/-- Whether a conditional form is taken: `cc[i]` on the bits of F (spec/30_encoding.md R165, spec/10_state.md R27). -/
def taken (cc : Cond) (s : State) : Bool :=
  match cc with
  | .nz => !s.regs.f.getLsbD 7
  | .z => s.regs.f.getLsbD 7
  | .nc => !s.regs.f.getLsbD 4
  | .c => s.regs.f.getLsbD 4

/-- The value of an operand of the table `r8`: a register, or the byte a CPU read of HL returns (R163). -/
def operand8Value (o : Operand8) (s : State) : Byte :=
  match o with
  | .reg r => readReg8 r s
  | .atHL => busRead (readReg16 .hl s) s

/-- The second operand of an ALU instruction (spec/42_alu8.md R252). -/
def aluOperand (x : Forms.AluSrc) (s : State) : Byte :=
  match x with
  | .reg r => readReg8 r s
  | .atHL => busRead (readReg16 .hl s) s
  | .imm d8 => d8

/-- The bytes of an ALU instruction: `0b10yyyzzz`, `0b10yyy110`, or `0b11yyy110` and d8 (R252). -/
def aluBytes (op : AluOp) (x : Forms.AluSrc) : List Byte :=
  match x with
  | .reg r => [0x80 + 8 * Forms.aluCode op + Forms.reg8Code r]
  | .atHL => [0x86 + 8 * Forms.aluCode op]
  | .imm d8 => [0xC6 + 8 * Forms.aluCode op, d8]

/-- The cycles of an ALU instruction: 4, 8, 8 (R252). -/
def aluCycles (x : Forms.AluSrc) : Nat :=
  match x with
  | .reg _ => 4
  | .atHL => 8
  | .imm _ => 8

/-- The shift and rotate functions as arithmetic on `v` in 0 to 255 with old carry `c` in 0 or 1: the result and the bit
shifted out (spec/44_rotate_shift_bit.md R311 to R313). -/
def rotateResult (op : RotOp) (v c : Nat) : Nat × Nat :=
  match op with
  | .rlc => (2 * v % 256 + v / 128, v / 128)
  | .rrc => (v / 2 + 128 * (v % 2), v % 2)
  | .rl => (2 * v % 256 + c, v / 128)
  | .rr => (v / 2 + 128 * c, v % 2)
  | .sla => (2 * v % 256, v / 128)
  | .sra => (v / 2 + 128 * (v / 128), v % 2)
  | .swap => (16 * (v % 16) + v / 16, 0)
  | .srl => (v / 2, v % 2)

/-- One column of one sprite, as the loop of spec/61_ppu.md R462 writes it, a row outside 0 to h - 1 skipped (R463). -/
def spriteColumn (ly : Nat) (s : State) (i : Nat) (fb : Framebuffer) (col : Nat) : Framebuffer :=
  let y := (Memory.read s.oam (4 * i)).toNat
  let x := (Memory.read s.oam (4 * i + 1)).toNat
  let tile := (Memory.read s.oam (4 * i + 2)).toNat
  let a := Memory.read s.oam (4 * i + 3)
  let h : Nat := if s.ppu.lcdc.getLsbD 2 then 16 else 8
  let row0 : Int := (ly : Int) + 16 - y
  if row0 < 0 ∨ (h : Int) ≤ row0 then fb
  else
    let row : Int := if a.getLsbD 6 then h - 1 - row0 else row0
    let t := if h = 16 then tile / 2 * 2 else tile
    let off := 16 * t + 2 * row.toNat
    let lo := Memory.read s.vram.buf off
    let hi := Memory.read s.vram.buf (off + 1)
    let sx : Int := (x : Int) - 8 + col
    if sx < 0 ∨ 159 < sx then fb
    else
      let b := if a.getLsbD 5 then col else 7 - col
      let idx := 2 * (hi.getLsbD b).toNat + (lo.getLsbD b).toNat
      let palette := if a.getLsbD 4 then s.ppu.obp1 else s.ppu.obp0
      if idx = 0 then fb
      else if a.getLsbD 7 ∧ (bgWinPixel sx.toNat ly s).1 ≠ 0 then fb
      else
        Framebuffer.write fb (ly * 160 + sx.toNat) (BitVec.ofNat 2 (palette.toNat / 4 ^ idx % 4))

/-- `RenderLine(ly)` as the spec writes it: the background pass, then the sprite pass sprite by sprite and column by
column, in the order of the line's list or its reverse (spec/61_ppu.md R460, R462). -/
def renderLineByLoops (ly : Nat) (s : State) : State :=
  let order := if s.cfg.objDrawOrder = .descending then s.ppu.lineSprites.reverse else s.ppu.lineSprites
  let bg := (List.range 160).foldl (fun fb x => Framebuffer.write fb (ly * 160 + x) (bgWinPixel x ly s).2) s.ppu.fb
  { s with
    ppu := { s.ppu with
      fb := order.foldl (fun fb i => (List.range 8).foldl (spriteColumn ly s i) fb) bg } }

/-- A CPU read of this address returns stored RAM now: work RAM, its echo or high RAM, not masked by DMA. -/
def plainRam (a : Word) (s : State) : Bool :=
  match regionOf a with
  | .wram _ => !dmaMasks a s
  | .hram _ => true
  | _ => false

/-- `n` steps in a row, `none` once one of them gives no next state. -/
def runSteps : Nat → State → Option State
  | 0, s => some s
  | n + 1, s =>
    match step s with
    | .next t => runSteps n t
    | .fault _ => none
    | .refused _ => none

/-- The events the source's Frame Driver returns at (spec/60_exceptions.md R424). -/
def driverReturns (s : State) : Bool := s.frameValid || s.blankFrame || s.fault

/-- A halt nothing can lift (spec/60_exceptions.md R424, spec/46_system.md R371). -/
def haltedForever (s : State) : Bool := s.halted && s.ie == 0 && !s.fault

end Sys2Proof.Machine
end

