-- ==== Sys2Proof/Certificates/Slice0/Obligations.lean ====
section
/-! DEFINITION. The statements about the model, each from the rules of spec/ its docstring and OBLIGATIONS.json name. Their vocabulary is that of Sys2Proof/Safety.lean. -/

open Sys2Proof Sys2Proof.Machine

/-- For every well-formed instruction i and every continuation, decoding the bytes of i followed by the continuation gives i and the continuation. The marker PREFIX (one byte, log entry 11) only when nothing follows it. (30_encoding.md section 1, 30_encoding.md section 3, R176) -/
def Obligations.DecodeOfEncode : Prop :=
  ∀ (i : Instr) (rest : List Byte), i.wellFormed = true → (i = .cbPrefix → rest = []) →
    decode (encode i ++ rest) = .instr i rest

/-- What decodes is well-formed and its bytes are its encoding followed by the rest. Any three bytes decode, and the number of bytes used, 1 to 3, depends on the first byte alone (2 for 0xCB). (30_encoding.md section 1) -/
def Obligations.EncodeOfDecode : Prop :=
  (∀ (bytes : List Byte) (i : Instr) (rest : List Byte), decode bytes = .instr i rest →
      i.wellFormed = true ∧ encode i ++ rest = bytes) ∧
    (∀ (op b1 b2 : Byte) (rest : List Byte), ∃ i,
      decode (op :: b1 :: b2 :: rest) = .instr i ((b1 :: b2 :: rest).drop (lengthOfOpcode op - 1))) ∧
    (∀ op : Byte, 1 ≤ lengthOfOpcode op ∧ lengthOfOpcode op ≤ 3) ∧ lengthOfOpcode 0xCB = 2

/-- Eighteen byte sequences taken from the examples of the instruction rules, one or more of each family, decode to the instruction the rule names. That the low byte of a 16-bit operand comes first is the spec's decision D5. (30_encoding.md section 3, 92_eei_decisions.md D5) -/
def Obligations.SampleEncodings : Prop :=
  decode [0x78] = .instr .ld_A_B [] ∧
    decode [0x3E, 0x7F] = .instr (.ld_A_d8 0x7F) [] ∧
    decode [0xFA, 0x00, 0xC0] = .instr (.ld_A_atA16 0xC000) [] ∧
    decode [0xE0, 0x46] = .instr (.ldh_atA8_A 0x46) [] ∧
    decode [0x31, 0xFE, 0xFF] = .instr (.ld_SP_d16 0xFFFE) [] ∧
    decode [0xF8, 0x02] = .instr (.ld_HL_SPe8 0x02) [] ∧
    decode [0xC6, 0x80] = .instr (.add_A_d8 0x80) [] ∧
    decode [0x93] = .instr .sub_A_E [] ∧
    decode [0x27] = .instr .daa [] ∧
    decode [0x09] = .instr .add_HL_BC [] ∧
    decode [0xCB, 0x7C] = .instr .bit_7_H [] ∧
    decode [0xCB, 0xBE] = .instr .res_7_atHL [] ∧
    decode [0xC3, 0x50, 0x01] = .instr (.jp_a16 0x0150) [] ∧
    decode [0x20, 0xFC] = .instr (.jr_NZ_e8 0xFC) [] ∧
    decode [0xCD, 0x5D, 0x01] = .instr (.call_a16 0x015D) [] ∧
    decode [0xEF] = .instr .rst_28H [] ∧
    decode [0x76] = .instr .halt [] ∧
    decode [0xDD] = .instr (.illegal 0xDD) []

/-- With fault and halted clear, let q be the state after phases 1 and 2. If the bytes the CPU reads at q's PC decode to i, the step is exec i on q with PC past the instruction and 4 cycles counted for each byte, followed, unless the fault was raised, by interrupt resolution, the cycle total, the PPU, the timer and the DMA engine, each by the cycles of the step. The cycles of the step are those counted after interrupt resolution, so the 20 of an entry are among them: the spec's decision D6. The model's own are the step that raised the fault as a next state (log entry 7, DEDUCED), the operand bytes fetched and counted before exec (log entry 13, DEDUCED) and the input list, which moves on by one sample (log entry 6, DESIGN CHOICE). (60_exceptions.md section 1, 30_encoding.md section 1, 92_eei_decisions.md D6) -/
def Obligations.StepRunsDecodedInstruction : Prop :=
  ∀ (s : State) (i : Instr) (rest : List Byte),
    let q := beforeInstruction s
    s.fault = false → s.halted = false →
    decode [busRead q.pc q, busRead (q.pc + 1) q, busRead (q.pc + 2) q] = .instr i rest →
    step s =
      match exec i { q with pc := q.pc + BitVec.ofNat 16 (3 - rest.length), stepCycles := 4 * (3 - rest.length) } with
      | .next t =>
        if t.fault then .next t
        else
          let u := resolveInterrupts t
          let n := u.stepCycles
          let w := dmaAdvance n (timerAdvance n (ppuAdvance n { u with cycTotal := u.cycTotal + BitVec.ofNat 64 n }))
          .next { w with joyInputs := w.joyInputs.tail }
      | .fault r => .fault r
      | .refused r => .refused r

/-- Before its instruction a step zeroes the cycle count and the two output pulses, sets IF bit 4 when the step's JoyEdge is 1, and turns a set ime_pending into IME; nothing else changes. That the cycle count starts from 0 is R400's pseudocode and that the latch is resolved in every step, halted or not, the spec's decision D7; that JoyEdge sets IF bit 4 whatever the select bits are is D22. The model's own are the input list, whose head is the step's JoyEdge and which is quiet when empty (log entry 6, DESIGN CHOICE), and the two pulses as fields that every step clears (log entry 9, DEDUCED). (60_exceptions.md section 1, 62_timer_dma_joypad.md section 3, 00_scope.md section 6, 92_eei_decisions.md D7, 92_eei_decisions.md D22) -/
def Obligations.BeforeInstruction : Prop :=
  ∀ s : State, beforeInstruction s =
    { s with
      stepCycles := 0
      frameValid := false
      blankFrame := false
      ime := s.ime || s.imePending
      imePending := false
      ifReg := if (s.joyInputs.head?.map JoyInput.edge).getD false then s.ifReg ||| 0b10000 else s.ifReg }

/-- In a halted step the phases 4 to 8 run on 4 cycles with PC and the registers unchanged. With no enabled pending source the core stays halted. With one it wakes; with IME 0 execution continues at the same PC, with IME 1 the lowest pending source k is entered at 0x40 + 8k with SP 2 lower and IME 0 (R410 to R412). That phases 4 to 8 run in a halted step is R400's own reading, that the step which enters counts 24 cycles the decision D6, that the IME latch is resolved in a halted step the decision D7, that JoyEdge sets IF bit 4 whatever the select bits are D22. The step's JoyEdge is the head of the model's input list (log entry 6, DESIGN CHOICE). (60_exceptions.md section 1, 60_exceptions.md section 3, 92_eei_decisions.md D6, 92_eei_decisions.md D7, 92_eei_decisions.md D22) -/
def Obligations.HaltedStep : Prop :=
  ∀ s : State,
    let q := beforeInstruction s
    let p := q.ie &&& q.ifReg
    s.fault = false → s.halted = true →
    ∃ t, step s = .next t ∧ t = afterInstruction { q with stepCycles := 4 } ∧ t.regs = s.regs ∧
      (p = 0 → t.halted = true ∧ t.pc = s.pc ∧ t.sp = s.sp ∧ t.stepCycles = 4) ∧
      (p ≠ 0 → t.halted = false) ∧
      (p ≠ 0 → q.ime = false → t.pc = s.pc ∧ t.sp = s.sp ∧ t.stepCycles = 4) ∧
      (∀ k : Nat, k < 5 → p.getLsbD k = true → (∀ j < k, p.getLsbD j = false) → q.ime = true →
        t.pc = BitVec.ofNat 16 (0x40 + 8 * k) ∧ t.sp = s.sp - 2 ∧ t.ime = false ∧ t.stepCycles = 24)

/-- Each of the eleven undefined bytes decodes to ILLEGAL, whose meaning records registers, PC, SP and cyc_total and sets fault, nothing else. A step that fetches one ends there: PC past the byte, no other phase. The model answers that entry as a next state and then the fault by name (log entry 7). (60_exceptions.md section 2, 46_system.md, 92_eei_decisions.md D8) -/
def Obligations.IllegalOpcode : Prop :=
  (∀ op ∈ ([0xD3, 0xDB, 0xDD, 0xE3, 0xE4, 0xEB, 0xEC, 0xED, 0xF4, 0xFC, 0xFD] : List Byte),
      encodes [op] (.illegal op) ∧
      ∀ s : State, exec (.illegal op) s =
        .next { s with
          fault := true
          snapshot := { regs := { s.regs with f := s.regs.f &&& 0xF0 }, pc := s.pc, sp := s.sp, cycTotal := s.cycTotal } }) ∧
    (∀ s : State,
      let q := beforeInstruction s
      s.fault = false → s.halted = false →
      busRead q.pc q ∈ ([0xD3, 0xDB, 0xDD, 0xE3, 0xE4, 0xEB, 0xEC, 0xED, 0xF4, 0xFC, 0xFD] : List Byte) →
      step s =
        .next { q with
          pc := s.pc + 1
          stepCycles := 4
          fault := true
          snapshot :=
            { regs := { s.regs with f := s.regs.f &&& 0xF0 }, pc := s.pc + 1, sp := s.sp, cycTotal := s.cycTotal } }) ∧
    (∀ s : State, s.fault = true → step s = .fault (.illegalOpcode s.snapshot))

/-- exec gives a next state for every instruction and state, but for STOP when the parameter STOP_MODE is refuse, which is refused by name. That an undefined opcode answers a next state, the one with the fault taken, is the model's (log entry 7, DEDUCED). That STOP has no effect under refuse is the spec's decision D11, whose parameter STOP_MODE it is. (60_exceptions.md section 2, 70_reset_and_hazards.md section 2, 46_system.md, 92_eei_decisions.md D8, 92_eei_decisions.md D11) -/
def Obligations.EveryInstructionRuns : Prop :=
  (∀ (i : Instr) (s : State), i ≠ .stop ∨ s.cfg.stopMode ≠ .refuse → ∃ t, exec i s = .next t) ∧
    (∀ s : State, s.cfg.stopMode = .refuse → exec .stop s = .refused .stopRefused)

/-- Over all instructions: IME changes only by DI and RETI, ime_pending only by EI and DI, halted only by HALT, fault and snapshot only by an undefined opcode; no instruction changes cyc_total, a ROM byte, the framebuffer, the output pulses, the inputs or the parameters. That STOP changes none of them is the spec's decision D11, that RETI writes IME itself D13, that DI clears ime_pending D38, what the undefined opcode records D8. (10_state.md section 4, 20_memory.md section 3, 92_eei_decisions.md D8, 92_eei_decisions.md D11, 92_eei_decisions.md D13, 92_eei_decisions.md D38) -/
def Obligations.ControlStateWrittenOnlyBy : Prop :=
  ∀ (i : Instr) (s t : State), exec i s = .next t →
    (t.ime ≠ s.ime → i = .di ∨ i = .reti) ∧
    (t.imePending ≠ s.imePending → i = .ei ∨ i = .di) ∧
    (t.halted ≠ s.halted → i = .halt) ∧
    (t.fault ≠ s.fault ∨ t.snapshot ≠ s.snapshot → ∃ op, i = .illegal op) ∧
    t.cycTotal = s.cycTotal ∧ t.rom.buf = s.rom.buf ∧ t.bootRom = s.bootRom ∧ t.ppu.fb = s.ppu.fb ∧
    t.frameValid = s.frameValid ∧ t.blankFrame = s.blankFrame ∧ t.joyInputs = s.joyInputs ∧ t.cfg = s.cfg

/-- For every destination and source register, and every byte, with the encoding: the destination holds the source's old value or d8; every other register, the flags, PC, SP, memory and device state are unchanged; 4 and 8 cycles. (R201, R202) -/
def Obligations.LoadRegister : Prop :=
  (∀ rd rs : Reg8,
      encodes [0x40 + 8 * Forms.reg8Code rd + Forms.reg8Code rs] (Forms.ldRegReg rd rs) ∧
      ∀ s : State, ∃ t, exec (Forms.ldRegReg rd rs) s = .next t ∧ readReg8 rd t = readReg8 rs s ∧
        regsKeptExcept [rd] s t ∧ flagsKept s t ∧ onlyRegsChange s t ∧ takes 4 1 s t) ∧
    (∀ (rd : Reg8) (d8 : Byte),
      encodes [0x06 + 8 * Forms.reg8Code rd, d8] (Forms.ldRegImm rd d8) ∧
      ∀ s : State, ∃ t, exec (Forms.ldRegImm rd d8) s = .next t ∧ readReg8 rd t = d8 ∧
        regsKeptExcept [rd] s t ∧ flagsKept s t ∧ onlyRegsChange s t ∧ takes 8 2 s t)

/-- Each load gives its register the byte a CPU read of its address returns, the address taken from the old registers; (HL+) and (HL-) then step HL by one modulo 2^16. Other registers, flags, PC, SP, memory and devices are unchanged; the cycles are the rule's. (R203, R206, R207, R210, R212, R214, R217, R219) -/
def Obligations.LoadFromMemory : Prop :=
  (∀ rd : Reg8, encodes [0x46 + 8 * Forms.reg8Code rd] (Forms.ldRegAtHL rd) ∧
      ∀ s : State, ∃ t, exec (Forms.ldRegAtHL rd) s = .next t ∧ readReg8 rd t = busRead (readReg16 .hl s) s ∧
        regsKeptExcept [rd] s t ∧ flagsKept s t ∧ onlyRegsChange s t ∧ takes 8 1 s t) ∧
    (∀ (n : Byte) (a : Word) (s : State),
      ∀ f ∈ [([0x0A], Instr.ld_A_atBC, readReg16 .bc s, 8),
        ([0x1A], Instr.ld_A_atDE, readReg16 .de s, 8),
        ([0xFA, a.extractLsb' 0 8, a.extractLsb' 8 8], Instr.ld_A_atA16 a, a, 16),
        ([0xF0, n], Instr.ldh_A_atA8 n, 0xFF00 + n.zeroExtend 16, 12),
        ([0xF2], Instr.ld_A_atC, 0xFF00 + s.regs.c.zeroExtend 16, 8)],
      match f with
      | (bytes, i, addr, cycles) => encodes bytes i ∧ ∃ t, exec i s = .next t ∧ t.regs.a = busRead addr s ∧
          regsKeptExcept [.a] s t ∧ flagsKept s t ∧ onlyRegsChange s t ∧ takes cycles bytes.length s t) ∧
    (∀ s : State, ∀ f ∈ [([0x2A], Instr.ld_A_atHLinc, (1 : Word)), ([0x3A], Instr.ld_A_atHLdec, -1)],
      match f with
      | (bytes, i, k) => encodes bytes i ∧ ∃ t, exec i s = .next t ∧ t.regs.a = busRead (readReg16 .hl s) s ∧
          readReg16 .hl t = readReg16 .hl s + k ∧
          regsKeptExcept [.a, .h, .l] s t ∧ flagsKept s t ∧ onlyRegsChange s t ∧ takes 8 1 s t)

/-- Each store is one CPU write of its value to its address, computed from the old registers; (HL+) and (HL-) then step HL. Registers, flags, PC, SP are otherwise unchanged, and every byte outside what that write may touch reads as before (a mapper command or device register touches what its own rule says); the cycles are the rule's. (R204, R205, R208, R209, R211, R213, R215, R216, R218) -/
def Obligations.StoreToMemory : Prop :=
  (∀ r : Reg8, encodes [0x70 + Forms.reg8Code r] (Forms.ldAtHLReg r) ∧
      ∀ s : State, ∃ t, exec (Forms.ldAtHLReg r) s = .next t ∧ storesByte (readReg16 .hl s) (readReg8 r s) s t ∧
        t.regs = s.regs ∧ takes 8 1 s t) ∧
    (∀ (n : Byte) (a : Word) (s : State),
      ∀ f ∈ [([0x36, n], Instr.ld_atHL_d8 n, readReg16 .hl s, n, 12),
        ([0x02], Instr.ld_atBC_A, readReg16 .bc s, s.regs.a, 8),
        ([0x12], Instr.ld_atDE_A, readReg16 .de s, s.regs.a, 8),
        ([0xEA, a.extractLsb' 0 8, a.extractLsb' 8 8], Instr.ld_atA16_A a, a, s.regs.a, 16),
        ([0xE0, n], Instr.ldh_atA8_A n, 0xFF00 + n.zeroExtend 16, s.regs.a, 12),
        ([0xE2], Instr.ld_atC_A, 0xFF00 + s.regs.c.zeroExtend 16, s.regs.a, 8)],
      match f with
      | (bytes, i, addr, v, cycles) => encodes bytes i ∧ ∃ t, exec i s = .next t ∧ storesByte addr v s t ∧
          t.regs = s.regs ∧ takes cycles bytes.length s t) ∧
    (∀ s : State, ∀ f ∈ [([0x22], Instr.ld_atHLinc_A, (1 : Word)), ([0x32], Instr.ld_atHLdec_A, -1)],
      match f with
      | (bytes, i, k) => encodes bytes i ∧ ∃ t, exec i s = .next t ∧
          storesByte (readReg16 .hl s) s.regs.a s t ∧ readReg16 .hl t = readReg16 .hl s + k ∧
          regsKeptExcept [.h, .l] s t ∧ flagsKept s t ∧ takes 8 1 s t)

/-- LD rr,d16 loads the pair or SP and leaves the other pairs, A and F; LD SP,HL copies HL; LD (a16),SP writes the low byte of SP at a16 and then the high byte at a16 + 1 modulo 2^16. Frames and cycles as the rules say. (R230, R231, R232) -/
def Obligations.Load16 : Prop :=
  (∀ (rr : Reg16) (d16 : Word),
      encodes [0x01 + 16 * Forms.reg16Code rr, d16.extractLsb' 0 8, d16.extractLsb' 8 8] (Forms.ldReg16Imm rr d16) ∧
      ∀ s : State, ∃ t, exec (Forms.ldReg16Imm rr d16) s = .next t ∧ readReg16 rr t = d16 ∧
        (∀ q : Reg16, q ≠ rr → readReg16 q t = readReg16 q s) ∧ t.regs.a = s.regs.a ∧ flagsKept s t ∧
        onlyRegsSpChange s t ∧ takes 12 3 s t) ∧
    (encodes [0xF9] .ld_SP_HL ∧
      ∀ s : State, ∃ t, exec .ld_SP_HL s = .next t ∧ t.sp = readReg16 .hl s ∧ t.regs = s.regs ∧
        onlyRegsSpChange s t ∧ takes 8 1 s t) ∧
    (∀ a : Word, encodes [0x08, a.extractLsb' 0 8, a.extractLsb' 8 8] (.ld_atA16_SP a) ∧
      ∀ s : State, ∃ t, exec (.ld_atA16_SP a) s = .next t ∧
        storesTwo a (s.sp.extractLsb' 0 8) (a + 1) (s.sp.extractLsb' 8 8) s t ∧
        t.regs = s.regs ∧ t.pc = s.pc ∧ t.sp = s.sp ∧ takes 20 3 s t)

/-- The result is SP plus the signed byte modulo 2^16, in HL or in SP; Z = N = 0, H and C are the carries of the unsigned addition of SP's low byte and the operand byte; frames; 12 and 16 cycles. (R233, R303) -/
def Obligations.StackPointerOffset : Prop :=
  ∀ e : Byte,
    (encodes [0xF8, e] (.ld_HL_SPe8 e) ∧ encodes [0xE8, e] (.add_SP_e8 e)) ∧
    ∀ s : State,
      let r : Word := BitVec.ofInt 16 ((s.sp.toNat : Int) + e.toInt)
      let h := decide (s.sp.toNat % 16 + e.toNat % 16 > 0x0F)
      let c := decide (s.sp.toNat % 256 + e.toNat > 0xFF)
      (∃ t, exec (.ld_HL_SPe8 e) s = .next t ∧ readReg16 .hl t = r ∧ flagsAre false false h c t ∧
        regsKeptExcept [.h, .l] s t ∧ onlyRegsChange s t ∧ takes 12 2 s t) ∧
      (∃ t, exec (.add_SP_e8 e) s = .next t ∧ t.sp = r ∧ flagsAre false false h c t ∧
        regsKeptExcept [] s t ∧ onlyRegsSpChange s t ∧ takes 16 2 s t)

/-- The pair (AF with F's low nibble 0) is written as two CPU writes; SP ends 2 lower; every register, flag, PC and every byte those writes do not touch are unchanged; 16 cycles. (R234) -/
def Obligations.PushRegisterPair : Prop :=
  ∀ rr : StackReg, encodes [0xC5 + 16 * Forms.stackRegCode rr] (Forms.push rr) ∧
    ∀ s : State, ∃ t, exec (Forms.push rr) s = .next t ∧
      pushesWord
        (match rr with
          | .bc => s.regs.b ++ s.regs.c
          | .de => s.regs.d ++ s.regs.e
          | .hl => s.regs.h ++ s.regs.l
          | .af => s.regs.a ++ (s.regs.f &&& 0xF0)) s t ∧
      t.regs = s.regs ∧ t.pc = s.pc ∧ takes 16 1 s t

/-- The two bytes CPU reads of SP and SP+1 return go to the low and the high half of the pair, F keeping only its upper nibble; SP ends 2 higher; all else is unchanged; 12 cycles. (R235, R236) -/
def Obligations.PopRegisterPair : Prop :=
  (encodes [0xC1] .pop_BC ∧ encodes [0xD1] .pop_DE ∧ encodes [0xE1] .pop_HL ∧ encodes [0xF1] .pop_AF) ∧
    ∀ s : State,
      let lo := busRead s.sp s
      let hi := busRead (s.sp + 1) s
      (∃ t, exec .pop_BC s = .next t ∧ t.regs = { s.regs with b := hi, c := lo } ∧ t.sp = s.sp + 2 ∧
        onlyRegsSpChange s t ∧ takes 12 1 s t) ∧
      (∃ t, exec .pop_DE s = .next t ∧ t.regs = { s.regs with d := hi, e := lo } ∧ t.sp = s.sp + 2 ∧
        onlyRegsSpChange s t ∧ takes 12 1 s t) ∧
      (∃ t, exec .pop_HL s = .next t ∧ t.regs = { s.regs with h := hi, l := lo } ∧ t.sp = s.sp + 2 ∧
        onlyRegsSpChange s t ∧ takes 12 1 s t) ∧
      (∃ t, exec .pop_AF s = .next t ∧ t.regs = { s.regs with a := hi, f := lo &&& 0xF0 } ∧ t.sp = s.sp + 2 ∧
        onlyRegsSpChange s t ∧ takes 12 1 s t)

/-- If the two bytes below SP are work RAM (or its echo) not masked by DMA, or high RAM, PUSH rr followed by POP rr gives back every register and SP. States are in canonical form and F's low nibble is 0, as every step keeps them. (41_load16_stack.md, 20_memory.md section 6) -/
def Obligations.PushThenPop : Prop :=
  ∀ (rr : StackReg) (s : State), memoriesWf s → flagNibbleClear s →
    plainRam (s.sp - 1) s = true → plainRam (s.sp - 2) s = true →
    ∃ t u, exec (Forms.push rr) s = .next t ∧ exec (Forms.pop rr) t = .next u ∧ u.regs = s.regs ∧ u.sp = s.sp

/-- For ADD and ADC with a register, (HL) or d8: A becomes (a + x + cin) mod 256, Z, N = 0, H from the low nibbles, C from the full sum, cin being the old carry for ADC and 0 for ADD; nothing else changes; 4 or 8 cycles. (R253, R260, R261, R262, R263, R264, R265) -/
def Obligations.AddWithAndWithoutCarry : Prop :=
  ∀ op : AluOp, op = .add ∨ op = .adc → ∀ x : Forms.AluSrc, encodes (aluBytes op x) (Forms.alu op x) ∧
    ∀ s : State,
      let a := s.regs.a.toNat
      let v := (aluOperand x s).toNat
      let cin : Nat := if op = .adc ∧ s.regs.f.getLsbD 4 = true then 1 else 0
      ∃ t, exec (Forms.alu op x) s = .next t ∧ t.regs.a = BitVec.ofNat 8 (a + v + cin) ∧
        flagsAre (decide ((a + v + cin) % 256 = 0)) false (decide (a % 16 + v % 16 + cin > 0xF))
          (decide (a + v + cin > 0xFF)) t ∧
        regsKeptExcept [.a] s t ∧ onlyRegsChange s t ∧ takes (aluCycles x) (aluBytes op x).length s t

/-- For SUB, SBC and CP with a register, (HL) or d8: the difference (a - x - cin) mod 256 goes to A (CP leaves A), Z, N = 1, H the low nibble borrow, C the full borrow, cin being the old carry for SBC and 0 otherwise; nothing else changes; 4 or 8 cycles. (R254, R266, R267, R268, R269, R270, R271, R281, R282, R283) -/
def Obligations.SubtractAndCompare : Prop :=
  ∀ op : AluOp, op = .sub ∨ op = .sbc ∨ op = .cp → ∀ x : Forms.AluSrc, encodes (aluBytes op x) (Forms.alu op x) ∧
    ∀ s : State,
      let a := s.regs.a.toNat
      let v := (aluOperand x s).toNat
      let cin : Nat := if op = .sbc ∧ s.regs.f.getLsbD 4 = true then 1 else 0
      let r : Byte := BitVec.ofInt 8 ((a : Int) - v - cin)
      ∃ t, exec (Forms.alu op x) s = .next t ∧ t.regs.a = (if op = .cp then s.regs.a else r) ∧
        flagsAre (decide (r = 0)) true (decide (a % 16 < v % 16 + cin)) (decide (a < v + cin)) t ∧
        regsKeptExcept [.a] s t ∧ onlyRegsChange s t ∧ takes (aluCycles x) (aluBytes op x).length s t

/-- For AND, XOR and OR with a register, (HL) or d8: A becomes the bitwise result, Z from it, N = 0, H = 1 for AND and 0 otherwise, C = 0; nothing else changes; 4 or 8 cycles. (R255, R272, R273, R274, R275, R276, R277, R278, R279, R280) -/
def Obligations.LogicOperations : Prop :=
  ∀ (op : AluOp) (g : Bool → Bool → Bool),
    (op = .and ∧ g = (fun p q => p && q)) ∨ (op = .xor ∧ g = (fun p q => p != q)) ∨ (op = .or ∧ g = (fun p q => p || q)) →
    ∀ x : Forms.AluSrc, encodes (aluBytes op x) (Forms.alu op x) ∧
    ∀ s : State, ∃ t, exec (Forms.alu op x) s = .next t ∧
      (∀ k < 8, t.regs.a.getLsbD k = g (s.regs.a.getLsbD k) ((aluOperand x s).getLsbD k)) ∧
      flagsAre (decide (t.regs.a = 0)) false (decide (op = .and)) false t ∧
      regsKeptExcept [.a] s t ∧ onlyRegsChange s t ∧ takes (aluCycles x) (aluBytes op x).length s t

/-- INC r and DEC r add or subtract 1 modulo 256; Z from the result, N 0 or 1, H from the low nibble, C unchanged. The (HL) forms do one read and one write of the same address. Frames; 4 and 12 cycles. (R284, R285, R286, R287) -/
def Obligations.IncrementAndDecrement8 : Prop :=
  ∀ s : State,
    (∀ r : Reg8,
      let v := readReg8 r s
      (encodes [0x04 + 8 * Forms.reg8Code r] (Forms.inc8 (.reg r)) ∧
        ∃ t, exec (Forms.inc8 (.reg r)) s = .next t ∧ readReg8 r t = v + 1 ∧
          flagsAre (decide (v = 0xFF)) false (decide (v.toNat % 16 = 0xF)) (flagC s) t ∧
          regsKeptExcept [r] s t ∧ onlyRegsChange s t ∧ takes 4 1 s t) ∧
      (encodes [0x05 + 8 * Forms.reg8Code r] (Forms.dec8 (.reg r)) ∧
        ∃ t, exec (Forms.dec8 (.reg r)) s = .next t ∧ readReg8 r t = v - 1 ∧
          flagsAre (decide (v = 0x01)) true (decide (v.toNat % 16 = 0x0)) (flagC s) t ∧
          regsKeptExcept [r] s t ∧ onlyRegsChange s t ∧ takes 4 1 s t)) ∧
    (let hl := readReg16 .hl s
      let v := busRead hl s
      (encodes [0x34] (Forms.inc8 .atHL) ∧
        ∃ t, exec (Forms.inc8 .atHL) s = .next t ∧ storesByte hl (v + 1) s t ∧
          flagsAre (decide (v = 0xFF)) false (decide (v.toNat % 16 = 0xF)) (flagC s) t ∧
          regsKeptExcept [] s t ∧ takes 12 1 s t) ∧
      (encodes [0x35] (Forms.dec8 .atHL) ∧
        ∃ t, exec (Forms.dec8 .atHL) s = .next t ∧ storesByte hl (v - 1) s t ∧
          flagsAre (decide (v = 0x01)) true (decide (v.toNat % 16 = 0x0)) (flagC s) t ∧
          regsKeptExcept [] s t ∧ takes 12 1 s t))

/-- After an addition the low correction applies when H or the low nibble exceeds 9, the high one when C or A exceeds 0x99; after a subtraction by H and C alone. Z from the result, N kept, H = 0, C never cleared once set. Nothing else changes; 4 cycles. (R288) -/
def Obligations.DecimalAdjust : Prop :=
  encodes [0x27] .daa ∧
    ∀ s : State,
      let a := s.regs.a.toNat
      let low := if flagN s then flagH s else flagH s || decide (a % 16 > 9)
      let high := if flagN s then flagC s else flagC s || decide (a > 0x99)
      let adj : Int := (if low then 0x06 else 0) + (if high then 0x60 else 0)
      let r : Byte := BitVec.ofInt 8 (if flagN s then (a : Int) - adj else (a : Int) + adj)
      ∃ t, exec .daa s = .next t ∧ t.regs.a = r ∧ flagsAre (decide (r = 0)) (flagN s) false high t ∧
        regsKeptExcept [.a] s t ∧ onlyRegsChange s t ∧ takes 4 1 s t

/-- For all decimal digits: with A and B the packed-BCD bytes of two numbers below 100, ADD A,B then DAA leaves the packed-BCD of their sum modulo 100 in A and C exactly when the sum is 100 or more. (42_alu8.md section 5) -/
def Obligations.DecimalAdjustAfterAddition : Prop :=
  ∀ (x1 x0 y1 y0 : Fin 10) (s : State),
    s.regs.a = BitVec.ofNat 8 (16 * x1.val + x0.val) → s.regs.b = BitVec.ofNat 8 (16 * y1.val + y0.val) →
    let sum := (10 * x1.val + x0.val) + (10 * y1.val + y0.val)
    ∃ t u, exec .add_A_B s = .next t ∧ exec .daa t = .next u ∧
      u.regs.a = BitVec.ofNat 8 (16 * (sum % 100 / 10) + sum % 10) ∧ flagC u = decide (sum ≥ 100)

/-- CPL inverts A and sets N and H; SCF sets C, CCF inverts it, both clear N and H; every other flag and register is kept; 4 cycles. (R289, R290, R291) -/
def Obligations.ComplementAndCarryFlags : Prop :=
  (encodes [0x2F] .cpl ∧ encodes [0x37] .scf ∧ encodes [0x3F] .ccf) ∧
    ∀ s : State,
      (∃ t, exec .cpl s = .next t ∧ (∀ k < 8, t.regs.a.getLsbD k = !s.regs.a.getLsbD k) ∧
        flagsAre (flagZ s) true true (flagC s) t ∧ regsKeptExcept [.a] s t ∧ onlyRegsChange s t ∧ takes 4 1 s t) ∧
      (∃ t, exec .scf s = .next t ∧ flagsAre (flagZ s) false false true t ∧
        regsKeptExcept [] s t ∧ onlyRegsChange s t ∧ takes 4 1 s t) ∧
      (∃ t, exec .ccf s = .next t ∧ flagsAre (flagZ s) false false (!flagC s) t ∧
        regsKeptExcept [] s t ∧ onlyRegsChange s t ∧ takes 4 1 s t)

/-- For BC, DE, HL and SP: the pair or SP becomes its value plus or minus 1 modulo 2^16, the other pairs, A and the flags are unchanged, 8 cycles. (R300, R301) -/
def Obligations.IncrementAndDecrement16 : Prop :=
  ∀ rr : Reg16,
    (encodes [0x03 + 16 * Forms.reg16Code rr] (Forms.inc16 rr) ∧
      ∀ s : State, ∃ t, exec (Forms.inc16 rr) s = .next t ∧
        (readReg16 rr t).toNat = ((readReg16 rr s).toNat + 1) % 65536 ∧
        (∀ q : Reg16, q ≠ rr → readReg16 q t = readReg16 q s) ∧ t.regs.a = s.regs.a ∧ flagsKept s t ∧
        onlyRegsSpChange s t ∧ takes 8 1 s t) ∧
    (encodes [0x0B + 16 * Forms.reg16Code rr] (Forms.dec16 rr) ∧
      ∀ s : State, ∃ t, exec (Forms.dec16 rr) s = .next t ∧
        (readReg16 rr t).toNat = ((readReg16 rr s).toNat + 65535) % 65536 ∧
        (∀ q : Reg16, q ≠ rr → readReg16 q t = readReg16 q s) ∧ t.regs.a = s.regs.a ∧ flagsKept s t ∧
        onlyRegsSpChange s t ∧ takes 8 1 s t)

/-- HL becomes HL + rr modulo 2^16 (the old HL for both operands of ADD HL,HL); Z is kept, N = 0, H and C are the carries out of bit 11 and bit 15; nothing else changes; 8 cycles. (R302) -/
def Obligations.AddToHL : Prop :=
  ∀ rr : Reg16, encodes [0x09 + 16 * Forms.reg16Code rr] (Forms.addHL rr) ∧
    ∀ s : State,
      let x := (readReg16 .hl s).toNat
      let y := (readReg16 rr s).toNat
      ∃ t, exec (Forms.addHL rr) s = .next t ∧ readReg16 .hl t = BitVec.ofNat 16 (x + y) ∧
        flagsAre (flagZ s) false (decide (x % 4096 + y % 4096 > 0x0FFF)) (decide (x + y > 0xFFFF)) t ∧
        regsKeptExcept [.h, .l] s t ∧ onlyRegsChange s t ∧ takes 8 1 s t

/-- A becomes the rotated value, C the bit shifted out, and Z, N, H are 0 even when A becomes 0; nothing else changes; 4 cycles. (R311, R312, R314, R315, R316, R317) -/
def Obligations.RotateAccumulator : Prop :=
  ∀ s : State, ∀ f ∈ [([0x07], Instr.rlca, RotOp.rlc), ([0x0F], Instr.rrca, RotOp.rrc), ([0x17], Instr.rla, RotOp.rl),
      ([0x1F], Instr.rra, RotOp.rr)],
    match f with
    | (bytes, i, op) =>
      let r := rotateResult op s.regs.a.toNat (s.regs.f.getLsbD 4).toNat
      encodes bytes i ∧ ∃ t, exec i s = .next t ∧ t.regs.a = BitVec.ofNat 8 r.1 ∧
        flagsAre false false false (decide (r.2 = 1)) t ∧
        regsKeptExcept [.a] s t ∧ onlyRegsChange s t ∧ takes 4 1 s t

/-- For each of the eight operations and each register: the register becomes the function's result, Z from it, N = H = 0, C the bit shifted out (0 for SWAP); nothing else changes; 8 cycles. (R311, R312, R313, R318, R320, R322, R324, R326, R328, R330, R332) -/
def Obligations.RotateRegister : Prop :=
  ∀ (op : RotOp) (q : Reg8), encodes [0xCB, 8 * Forms.rotCode op + Forms.reg8Code q] (Forms.rot op (.reg q)) ∧
    ∀ s : State,
      let r := rotateResult op (readReg8 q s).toNat (s.regs.f.getLsbD 4).toNat
      ∃ t, exec (Forms.rot op (.reg q)) s = .next t ∧ readReg8 q t = BitVec.ofNat 8 r.1 ∧
        flagsAre (decide (r.1 = 0)) false false (decide (r.2 = 1)) t ∧
        regsKeptExcept [q] s t ∧ onlyRegsChange s t ∧ takes 8 2 s t

/-- For each of the eight operations: the byte a CPU read of HL returns is replaced at HL by the function's result with one CPU write, Z from it, N = H = 0, C the bit shifted out; registers, SP, PC and every byte that write does not touch are unchanged; 16 cycles. (R311, R312, R313, R319, R321, R323, R325, R327, R329, R331, R333) -/
def Obligations.RotateMemory : Prop :=
  ∀ op : RotOp, encodes [0xCB, 8 * Forms.rotCode op + 6] (Forms.rot op .atHL) ∧
    ∀ s : State,
      let hl := readReg16 .hl s
      let r := rotateResult op (busRead hl s).toNat (s.regs.f.getLsbD 4).toNat
      ∃ t, exec (Forms.rot op .atHL) s = .next t ∧ storesByte hl (BitVec.ofNat 8 r.1) s t ∧
        flagsAre (decide (r.1 = 0)) false false (decide (r.2 = 1)) t ∧
        regsKeptExcept [] s t ∧ takes 16 2 s t

/-- Z is the complement of the tested bit, N = 0, H = 1, C unchanged; registers, memory, PC and SP unchanged; 8 cycles, or 12 for (HL). (R334, R335) -/
def Obligations.BitTest : Prop :=
  ∀ (b : Fin 8) (o : Operand8),
    encodes [0xCB, 0x40 + 8 * BitVec.ofNat 8 b.val + Forms.operand8Code o] (Forms.bit b o) ∧
    ∀ s : State, ∃ t, exec (Forms.bit b o) s = .next t ∧
      flagsAre (!(operand8Value o s).getLsbD b.val) false true (flagC s) t ∧
      regsKeptExcept [] s t ∧ onlyRegsChange s t ∧ takes (if o = .atHL then 12 else 8) 2 s t

/-- RES clears and SET sets the one bit of the register or of the byte at HL (one read, one write, made even when the bit already has that value); no flag and nothing else changes; 8 and 16 cycles. (R336, R337, R338, R339) -/
def Obligations.BitResetAndSet : Prop :=
  ∀ b : Fin 8,
    (∀ r : Reg8,
      encodes [0xCB, 0x80 + 8 * BitVec.ofNat 8 b.val + Forms.reg8Code r] (Forms.res b (.reg r)) ∧
      encodes [0xCB, 0xC0 + 8 * BitVec.ofNat 8 b.val + Forms.reg8Code r] (Forms.set b (.reg r)) ∧
      ∀ s : State,
        (∃ t, exec (Forms.res b (.reg r)) s = .next t ∧
          (∀ k < 8, (readReg8 r t).getLsbD k = if k = b.val then false else (readReg8 r s).getLsbD k) ∧
          regsKeptExcept [r] s t ∧ flagsKept s t ∧ onlyRegsChange s t ∧ takes 8 2 s t) ∧
        (∃ t, exec (Forms.set b (.reg r)) s = .next t ∧
          (∀ k < 8, (readReg8 r t).getLsbD k = if k = b.val then true else (readReg8 r s).getLsbD k) ∧
          regsKeptExcept [r] s t ∧ flagsKept s t ∧ onlyRegsChange s t ∧ takes 8 2 s t)) ∧
    encodes [0xCB, 0x86 + 8 * BitVec.ofNat 8 b.val] (Forms.res b .atHL) ∧
    encodes [0xCB, 0xC6 + 8 * BitVec.ofNat 8 b.val] (Forms.set b .atHL) ∧
    ∀ s : State,
      let hl := readReg16 .hl s
      let v := busRead hl s
      (∃ t, exec (Forms.res b .atHL) s = .next t ∧ storesByte hl (v &&& ~~~(1#8 <<< b.val)) s t ∧
        t.regs = s.regs ∧ takes 16 2 s t) ∧
      (∃ t, exec (Forms.set b .atHL) s = .next t ∧ storesByte hl (v ||| 1#8 <<< b.val) s t ∧
        t.regs = s.regs ∧ takes 16 2 s t)

/-- JP a16 and JP HL set PC to the address, JR e8 to PC plus the signed byte modulo 2^16; the conditional forms do so exactly when their condition holds and otherwise leave the state alone. No register, flag or byte changes; the cycles are the rules'. (R351, R352, R353, R354, R355) -/
def Obligations.Jumps : Prop :=
  ∀ s : State,
    (encodes [0xE9] .jp_HL ∧
      ∃ t, exec .jp_HL s = .next t ∧ t.pc = readReg16 .hl s ∧ onlyPcChanges s t ∧ takes 4 1 s t) ∧
    (∀ a : Word,
      encodes [0xC3, a.extractLsb' 0 8, a.extractLsb' 8 8] (.jp_a16 a) ∧
      (∃ t, exec (.jp_a16 a) s = .next t ∧ t.pc = a ∧ onlyPcChanges s t ∧ takes 16 3 s t) ∧
      ∀ cc : Cond,
        encodes [0xC2 + 8 * Forms.condCode cc, a.extractLsb' 0 8, a.extractLsb' 8 8] (Forms.jpIf cc a) ∧
        ∃ t, exec (Forms.jpIf cc a) s = .next t ∧ onlyPcChanges s t ∧
          (taken cc s = true → t.pc = a ∧ takes 16 3 s t) ∧
          (taken cc s = false → t.pc = s.pc ∧ takes 12 3 s t)) ∧
    (∀ e : Byte,
      let target : Word := BitVec.ofInt 16 ((s.pc.toNat : Int) + e.toInt)
      encodes [0x18, e] (.jr_e8 e) ∧
      (∃ t, exec (.jr_e8 e) s = .next t ∧ t.pc = target ∧ onlyPcChanges s t ∧ takes 12 2 s t) ∧
      ∀ cc : Cond,
        encodes [0x20 + 8 * Forms.condCode cc, e] (Forms.jrIf cc e) ∧
        ∃ t, exec (Forms.jrIf cc e) s = .next t ∧ onlyPcChanges s t ∧
          (taken cc s = true → t.pc = target ∧ takes 12 2 s t) ∧
          (taken cc s = false → t.pc = s.pc ∧ takes 8 2 s t))

/-- CALL a16, a taken CALL cc and RST push PC (the address after the instruction) as two CPU writes and set PC to the target; an untaken CALL cc changes nothing. Registers and every byte the pushes do not touch are unchanged; the cycles are the rules'. (R356, R357, R360) -/
def Obligations.Calls : Prop :=
  ∀ s : State,
    (∀ a : Word,
      encodes [0xCD, a.extractLsb' 0 8, a.extractLsb' 8 8] (.call_a16 a) ∧
      (∃ t, exec (.call_a16 a) s = .next t ∧ pushesWord s.pc s t ∧ t.pc = a ∧ t.regs = s.regs ∧ takes 24 3 s t) ∧
      ∀ cc : Cond,
        encodes [0xC4 + 8 * Forms.condCode cc, a.extractLsb' 0 8, a.extractLsb' 8 8] (Forms.callIf cc a) ∧
        ∃ t, exec (Forms.callIf cc a) s = .next t ∧
          (taken cc s = true → pushesWord s.pc s t ∧ t.pc = a ∧ t.regs = s.regs ∧ takes 24 3 s t) ∧
          (taken cc s = false → t = s ∧ takes 12 3 s t)) ∧
    (∀ y : Fin 8,
      encodes [0xC7 + 8 * BitVec.ofNat 8 y.val] (Forms.rst y) ∧
      ∃ t, exec (Forms.rst y) s = .next t ∧ pushesWord s.pc s t ∧ t.pc = BitVec.ofNat 16 (8 * y.val) ∧
        t.regs = s.regs ∧ takes 16 1 s t)

/-- RET, a taken RET cc and RETI set PC to the word read low byte first at SP and leave SP 2 higher; RETI also sets IME to 1 at once, RET leaves it; an untaken RET cc changes only the cycle count. No register, flag or byte changes; 16, 20 or 8, and 16 cycles. That RETI enables interrupts at once, not through the latch, is the spec's decision D13, that the low byte of the word lies first D5. (45_control_transfer.md, 92_eei_decisions.md D13, 92_eei_decisions.md D5) -/
def Obligations.Returns : Prop :=
  (encodes [0xC9] .ret ∧ encodes [0xD9] .reti ∧ ∀ cc : Cond, encodes [0xC0 + 8 * Forms.condCode cc] (Forms.retIf cc)) ∧
    ∀ s : State,
      let popped (t : State) : Prop := t.pc = poppedWord s ∧ t.sp = s.sp + 2
      (∃ t, exec .ret s = .next t ∧ popped t ∧ t = { s with pc := t.pc, sp := t.sp, stepCycles := t.stepCycles } ∧
        sameMemory s t ∧ takes 16 1 s t) ∧
      (∃ t, exec .reti s = .next t ∧ popped t ∧
        t = { s with pc := t.pc, sp := t.sp, stepCycles := t.stepCycles, ime := true } ∧
        sameMemory s t ∧ takes 16 1 s t) ∧
      ∀ cc : Cond, ∃ t, exec (Forms.retIf cc) s = .next t ∧
        t = { s with pc := t.pc, sp := t.sp, stepCycles := t.stepCycles } ∧ sameMemory s t ∧
        (taken cc s = true → popped t ∧ takes 20 1 s t) ∧
        (taken cc s = false → t.pc = s.pc ∧ t.sp = s.sp ∧ takes 8 1 s t)

/-- NOP changes nothing, HALT sets halted, EI leaves IME and sets ime_pending, whatever IME is, DI clears IME and ime_pending; nothing else changes; 4 cycles each. With IME already 1 the latch EI sets makes no difference to the next step's phases 1 and 2 (R373; where EI's own step enters an interrupt see ResolveInterrupts). That DI also clears ime_pending is the spec's decision D38, that HALT sets halted whatever IME and the pending sources are its decision D12. (46_system.md, 60_exceptions.md section 1, 92_eei_decisions.md D12, 92_eei_decisions.md D38) -/
def Obligations.SystemInstructions : Prop :=
  (encodes [0x00] .nop ∧ encodes [0x76] .halt ∧ encodes [0xFB] .ei ∧ encodes [0xF3] .di) ∧
    ∀ s : State,
      exec .nop s = .next s ∧
      exec .halt s = .next { s with halted := true } ∧
      exec .ei s = .next { s with imePending := true } ∧
      (s.ime = true → beforeInstruction { s with imePending := true } = beforeInstruction s) ∧
      exec .di s = .next { s with ime := false, imePending := false } ∧
      takes 4 1 s s

/-- Under refuse the model refuses STOP by name; under nop1 it is a NOP of 4 cycles; under nop2 it fetches and discards one byte, 8 cycles, and nothing else changes. The parameter and its three meanings are the spec's decision D11. (46_system.md, 00_scope.md section 4, 92_eei_decisions.md D11) -/
def Obligations.StopByMode : Prop :=
  encodes [0x10] .stop ∧
    ∀ s : State,
      (s.cfg.stopMode = .refuse → exec .stop s = .refused .stopRefused) ∧
      (s.cfg.stopMode = .nop1 → ∃ t, exec .stop s = .next t ∧ t = s ∧ takes 4 1 s t) ∧
      (s.cfg.stopMode = .nop2 → ∃ t, exec .stop s = .next t ∧
        t = { s with pc := s.pc + 1, stepCycles := t.stepCycles } ∧ takes 8 1 s t)

/-- The meaning of PREFIX is that of the CB-table instruction of the byte at PC, with PC past that byte and 4 more cycles; the table gives each operation, bit number and operand its byte by the fields x, y, z. That the prefix is an instruction with a meaning of its own is the model's (log entry 11, DESIGN CHOICE): by R375 and R176 it is none, and a step decodes the pair as one CB instruction. (30_encoding.md section 3, 30_encoding.md section 5, 46_system.md) -/
def Obligations.PrefixRunsTheCbTable : Prop :=
  (∀ s : State, ∃ t,
      exec .cbPrefix s = .next t ∧
      exec (cbInstr (busRead s.pc s)) { s with pc := s.pc + 1, stepCycles := s.stepCycles + 4 } = .next t) ∧
    ∀ o : Operand8,
      (∀ op : RotOp, cbInstr (8 * Forms.rotCode op + Forms.operand8Code o) = Forms.rot op o) ∧
      ∀ b : Fin 8,
        cbInstr (0x40 + 8 * BitVec.ofNat 8 b.val + Forms.operand8Code o) = Forms.bit b o ∧
        cbInstr (0x80 + 8 * BitVec.ofNat 8 b.val + Forms.operand8Code o) = Forms.res b o ∧
        cbInstr (0xC0 + 8 * BitVec.ofNat 8 b.val + Forms.operand8Code o) = Forms.set b o

/-- With p = IE & IF: p = 0 changes nothing; p nonzero clears halted; with IME 1 the lowest set bit k of p, and only it, is entered: 20 cycles, PC pushed high byte first through two CPU writes, IME and bit k of IF cleared, PC at 0x40 + 8k; registers, flags and every byte those writes and IF do not touch stay. A clear ime_pending stays clear; a set one, which an entry meets only after EI with IME already 1 in its step, stays or is cleared by the free value entryKeepsImePending, for R412 and R373 differ there (log entry 22, DESIGN CHOICE), and the statement holds for either value. That the entry's 20 cycles count in the step is the spec's decision D6. (60_exceptions.md section 3, 92_eei_decisions.md D6) -/
def Obligations.ResolveInterrupts : Prop :=
  ∀ s : State,
    let p := s.ie &&& s.ifReg
    (p = 0 → resolveInterrupts s = s) ∧
    (p ≠ 0 → s.ime = false → resolveInterrupts s = { s with halted := false }) ∧
    (∀ k : Nat, k < 5 → p.getLsbD k = true → (∀ j < k, p.getLsbD j = false) → s.ime = true →
      let pushed := busWrite (s.sp - 2) (s.pc.extractLsb' 0 8) (busWrite (s.sp - 1) (s.pc.extractLsb' 8 8) s)
      resolveInterrupts s =
        { pushed with
          halted := false
          sp := s.sp - 2
          stepCycles := s.stepCycles + 20
          ime := false
          imePending := s.imePending && Config.entryKeepsImePending
          ifReg := pushed.ifReg &&& ~~~(1#5 <<< k)
          pc := BitVec.ofNat 16 (0x40 + 8 * k) }) ∧
    (resolveInterrupts s).regs = s.regs ∧
    (s.imePending = false → (resolveInterrupts s).imePending = false) ∧
    (memoriesWf s → memoryKeptExcept [s.sp - 1, s.sp - 2, 0xFF0F] s (resolveInterrupts s))

/-- A step that executes EI with IME and ime_pending clear ends with IME still 0 and no interrupt entered, whatever is pending: PC is the byte after EI, SP is unchanged. Before the next step's instruction IME is 1. (R373) -/
def Obligations.EnableInterruptsIsDeferred : Prop :=
  ∀ s : State,
    let q := beforeInstruction s
    s.fault = false → s.halted = false → s.ime = false → s.imePending = false → busRead q.pc q = 0xFB →
    ∃ t, step s = .next t ∧ t.ime = false ∧ t.imePending = true ∧ t.pc = s.pc + 1 ∧ t.sp = s.sp ∧ t.regs = s.regs ∧
      t.stepCycles = 4 ∧ (beforeInstruction t).ime = true ∧ (beforeInstruction t).pc = s.pc + 1

/-- A CPU write never changes a register, PC, SP, a control bit, a ROM byte, the framebuffer, the inputs or the parameters; every byte outside what the address may touch reads as before; and a byte of RAM that the CPU can reach now (work RAM, echo, high RAM, open VRAM, OAM or cartridge RAM) reads back as written. The gate of cartridge RAM rests on the spec's decisions D15, D19, D24. (20_memory.md section 2, 20_memory.md section 6, 92_eei_decisions.md D15, 92_eei_decisions.md D19, 92_eei_decisions.md D24) -/
def Obligations.BusWriteEffect : Prop :=
  ∀ (a : Word) (v : Byte) (s : State), memoriesWf s →
    let t := busWrite a v s
    cpuKept s t ∧ t.stepCycles = s.stepCycles ∧ memoryKeptExcept [a] s t ∧
    (plainRam a s = true ∨
      (dmaMasks a s = false ∧
        match regionOf a with
        | .vram _ => vramLocked s = false
        | .oam _ => oamLocked s = false
        | .cartRam off => ramEnabled s = true ∧ s.cfg.cartRamSize ≠ .none ∧ off < CartRamSize.bankSize s.cfg.cartRamSize
        | _ => False) → busRead a t = v)

/-- A CPU read and a CPU write add 4 cycles whatever answers. While a DMA is active an address below 0xFF00 reads 0xFF and discards writes; VRAM does so in PixelPut, OAM in OAMScan and PixelPut; everywhere else the CPU read is the raw read and the CPU write the raw write. (R72, R73, R78, R81) -/
def Obligations.CpuAccessCostAndMasks : Prop :=
  ∀ (a : Word) (v : Byte) (s : State),
    let masked := s.dma.active = true ∧ a.toNat < 0xFF00
    let locked :=
      (0x8000 ≤ a.toNat ∧ a.toNat < 0xA000 ∧ s.ppu.mode = .pixelPut) ∨
      (0xFE00 ≤ a.toNat ∧ a.toNat < 0xFEA0 ∧ (s.ppu.mode = .oamScan ∨ s.ppu.mode = .pixelPut))
    memRead a s = (busRead a s, { s with stepCycles := s.stepCycles + 4 }) ∧
    memWrite a v s = { busWrite a v s with stepCycles := s.stepCycles + 4 } ∧
    (masked ∨ locked → busRead a s = 0xFF ∧ busWrite a v s = s) ∧
    (¬masked → ¬locked → busRead a s = rawRead a s ∧ busWrite a v s = rawWrite a v s)

/-- 0xFEA0 to 0xFEFF and every I/O address outside the register map read 0xFF and discard writes (that the unlisted I/O addresses are not covered is the spec's decision D10); for k below 0x1E00 the address 0xE000 + k reads, writes and is written as 0xC000 + k. (20_memory.md section 1, 10_state.md section 5, 92_eei_decisions.md D10) -/
def Obligations.UncoveredAndEchoAddresses : Prop :=
  ∀ (a : Word) (v : Byte) (s : State),
    ((0xFEA0 ≤ a.toNat ∧ a.toNat < 0xFF00) ∨
      (0xFF00 ≤ a.toNat ∧ a.toNat < 0xFF80 ∧
        a.toNat ∉ [0xFF00, 0xFF04, 0xFF05, 0xFF06, 0xFF07, 0xFF0F, 0xFF40, 0xFF41, 0xFF42, 0xFF43, 0xFF44, 0xFF45,
          0xFF46, 0xFF47, 0xFF48, 0xFF49, 0xFF4A, 0xFF4B, 0xFF50]) →
      busRead a s = 0xFF ∧ busWrite a v s = s ∧ rawRead a s = 0xFF) ∧
    (∀ k < 0x1E00,
      busRead (BitVec.ofNat 16 (0xE000 + k)) s = busRead (BitVec.ofNat 16 (0xC000 + k)) s ∧
      busWrite (BitVec.ofNat 16 (0xE000 + k)) v s = busWrite (BitVec.ofNat 16 (0xC000 + k)) v s)

/-- Storage registers read the written byte; IF reads 0xE0 with its five bits, IE its five bits; STAT keeps bits 6 to 3 and shows the compare bit and the mode; DIV clears; LY discards; DMA starts a transfer; BOOT reads 0xFF and a non-zero write removes the overlay; P1 shows the select bits and the held keys of the selected groups. The unused bits of IF and IE, the P1 layout and BOOT are the spec's decisions D9, D22, D23; that the compare bit of STAT is computed at the read is D33, that writes to LY and to STAT's low bits are discarded D37. That DIV reads its high byte and is cleared by a write is D36, that TIMA, TMA and TAC store under either TIMER_MODE D20, that a write to DMA restarts a running transfer at index 0 D21. The held keys as the head of the input list, 0 when it is empty, are the model's (log entry 6, DESIGN CHOICE). (10_state.md section 5, 62_timer_dma_joypad.md section 2, 92_eei_decisions.md D9, 92_eei_decisions.md D22, 92_eei_decisions.md D23, 92_eei_decisions.md D33, 92_eei_decisions.md D37, 92_eei_decisions.md D20, 92_eei_decisions.md D21, 92_eei_decisions.md D36) -/
def Obligations.RegisterReadBack : Prop :=
  ∀ (v : Byte) (s : State),
    let held := ((s.joyInputs.head?).map JoyInput.held).getD 0
    (∀ a ∈ ([0xFF05, 0xFF06, 0xFF07, 0xFF40, 0xFF42, 0xFF43, 0xFF45, 0xFF46, 0xFF47, 0xFF48, 0xFF49, 0xFF4A, 0xFF4B] : List Word),
      busRead a (busWrite a v s) = v) ∧
    busRead 0xFF0F (busWrite 0xFF0F v s) = 0xE0 ||| (v &&& 0x1F) ∧
    busRead 0xFFFF (busWrite 0xFFFF v s) = v &&& 0x1F ∧
    busRead 0xFF41 (busWrite 0xFF41 v s) =
      0x80 ||| (v &&& 0x78) ||| (if s.ppu.ly = s.ppu.lyc then 4 else 0) |||
        (match s.ppu.mode with
          | .hBlank => 0
          | .vBlank => 1
          | .oamScan => 2
          | .pixelPut => 3) ∧
    (busWrite 0xFF04 v s).timer.div = 0 ∧ (busRead 0xFF04 s).toNat = s.timer.div.toNat / 256 ∧
    busWrite 0xFF44 v s = s ∧ busRead 0xFF44 s = s.ppu.ly ∧
    (busWrite 0xFF46 v s).dma = { reg := v, active := true, index := 0 } ∧
    busRead 0xFF50 s = 0xFF ∧ (busWrite 0xFF50 v s).bootEnabled = (s.bootEnabled && decide (v = 0)) ∧
    busRead 0xFF00 (busWrite 0xFF00 v s) =
      0xC0 ||| (v &&& 0x30) |||
        ((if v.getLsbD 4 then (0x0F : Byte) else ~~~held &&& 0x0F) &&&
          (if v.getLsbD 5 then (0x0F : Byte) else ~~~(held >>> 4) &&& 0x0F))

/-- With no DMA active: NoMapper ignores them; MBC1 sets the RAM enable, the 5-bit bank (0 becomes 1), the 2-bit selector and the mode by quarter of the area and updates the banks modulo their counts; MBC3 does so with a 7-bit bank and no mode. Nothing else changes, no ROM byte in particular. Both RAM-enable policies; details are the spec's decisions D16, D17, D18; that a write under the boot overlay reaches the mapper too is D23. (21_cartridge_mapper.md section 2, 21_cartridge_mapper.md section 3, 21_cartridge_mapper.md section 4, 92_eei_decisions.md D16, 92_eei_decisions.md D17, 92_eei_decisions.md D18, 92_eei_decisions.md D23) -/
def Obligations.MapperCommands : Prop :=
  ∀ (a : Word) (v : Byte) (s : State), s.dma.active = false → a.toNat < 0x8000 →
    let n := a.toNat
    let b := v.toNat
    let t := busWrite a v s
    let enable (old : Bool) : Bool :=
      match s.cfg.mbcRamenPolicy with
      | .setClear => decide (b % 16 = 0xA)
      | .toggle => if b % 16 = 0xA then !old else old
    let ramBank (k : Nat) : Bank :=
      if s.cfg.cartRamSize = .none then s.cartRam
      else { s.cartRam with current := k % CartRamSize.bankCount s.cfg.cartRamSize }
    match s.mapper with
    | .noMapper => t = s
    | .mbc1 r =>
      let update (q : Mbc1) : State :=
        { s with
          mapper := .mbc1 q
          rom := { s.rom with
            current :=
              (if q.bankingMode then q.romBank.toNat else 32 * q.secBank.toNat + q.romBank.toNat) % s.cfg.romBankCount }
          cartRam := ramBank (if q.bankingMode then q.secBank.toNat else 0) }
      (n < 0x2000 → t = { s with mapper := .mbc1 { r with ramEnabled := enable r.ramEnabled } }) ∧
      (0x2000 ≤ n → n < 0x4000 →
        t = update { r with romBank := BitVec.ofNat 5 (if b % 32 = 0 then 1 else b % 32) }) ∧
      (0x4000 ≤ n → n < 0x6000 → t = update { r with secBank := BitVec.ofNat 2 (b % 4) }) ∧
      (0x6000 ≤ n → t = update { r with bankingMode := decide (b % 2 = 1) })
    | .mbc3 r =>
      (n < 0x2000 → t = { s with mapper := .mbc3 { r with ramEnabled := enable r.ramEnabled } }) ∧
      (0x2000 ≤ n → n < 0x4000 →
        let bank := if b % 128 = 0 then 1 else b % 128
        t = { s with
          mapper := .mbc3 { r with romBank := BitVec.ofNat 7 bank }
          rom := { s.rom with current := bank % s.cfg.romBankCount } }) ∧
      (0x4000 ≤ n → n < 0x6000 →
        t = { s with mapper := .mbc3 { r with secBank := BitVec.ofNat 2 (b % 4) }, cartRam := ramBank (b % 4) }) ∧
      (0x6000 ≤ n → t = s)

/-- Below 0x100 with the overlay on, the boot ROM; else NoMapper reads the image byte of the address, MBC1 and MBC3 bank 0 below 0x4000 and the current bank above. Cartridge RAM reads its current bank while enabled and declared and within the bank, else 0xFF with writes discarded. That 0x0000 to 0x3FFF is always bank 0 is the spec's decision D17, that a 2 KB RAM is not mirrored D15, that NoMapper's RAM is always enabled D19, that the first offset past the bank is already out of range D24. (20_memory.md section 1, 21_cartridge_mapper.md section 5, 92_eei_decisions.md D15, 92_eei_decisions.md D17, 92_eei_decisions.md D19, 92_eei_decisions.md D24) -/
def Obligations.CartridgeReads : Prop :=
  ∀ (a : Word) (v : Byte) (s : State),
    let n := a.toNat
    let off := n - 0xA000
    let size := CartRamSize.bankSize s.cfg.cartRamSize
    let opened : Prop := s.cfg.cartRamSize ≠ .none ∧
      (match s.mapper with
        | .noMapper => True
        | .mbc1 r => r.ramEnabled = true
        | .mbc3 r => r.ramEnabled = true)
    (n < 0x100 → s.bootEnabled = true → rawRead a s = Memory.read s.bootRom n) ∧
    (n < 0x4000 → (0x100 ≤ n ∨ s.bootEnabled = false) → rawRead a s = Memory.read s.rom.buf n) ∧
    (0x4000 ≤ n → n < 0x8000 → s.mapper = .noMapper → rawRead a s = Memory.read s.rom.buf n) ∧
    (0x4000 ≤ n → n < 0x8000 → s.mapper ≠ .noMapper →
      rawRead a s = Memory.read s.rom.buf (s.rom.current * 0x4000 + (n - 0x4000))) ∧
    (0xA000 ≤ n → n < 0xC000 → opened → off < size →
      rawRead a s = Memory.read s.cartRam.buf (s.cartRam.current * size + off)) ∧
    (0xA000 ≤ n → n < 0xC000 → ¬(opened ∧ off < size) → rawRead a s = 0xFF ∧ rawWrite a v s = s)

/-- A CPU write to LCDC stores the byte; a falling edge of bit 7 puts the PPU in HBlank at line 0, dot 0 and reloads the budget, a rising edge in OAMScan at line 0, dot 0, neither raising an interrupt. While off, the budget counts down and its expiry pulses blank_frame and reloads it. What the edges do, and that the reload drops the excess, is the spec's decision D25, that the rising edge makes no compare of LY with LYC D33. The pulse as a field of State is the model's (log entry 9, DEDUCED). (61_ppu.md section 2, 92_eei_decisions.md D25, 92_eei_decisions.md D33) -/
def Obligations.LcdSwitch : Prop :=
  (∀ (v : Byte) (s : State),
      let old := s.ppu.lcdc.getLsbD 7
      let new := v.getLsbD 7
      busWrite 0xFF40 v s =
        { s with
          ppu :=
            if old = true ∧ new = false then
              { s.ppu with
                lcdc := v, mode := .hBlank, ly := 0, dot := 0, spriteExtra := 0, lineSprites := [], offBudget := 70224 }
            else if old = false ∧ new = true then
              { s.ppu with lcdc := v, mode := .oamScan, ly := 0, dot := 0, spriteExtra := 0, lineSprites := [] }
            else { s.ppu with lcdc := v } }) ∧
    (∀ (n : Nat) (s : State), s.ppu.lcdc.getLsbD 7 = false →
      ppuAdvance n s =
        if s.ppu.offBudget ≤ n then { s with ppu := { s.ppu with offBudget := 70224 }, blankFrame := true }
        else { s with ppu := { s.ppu with offBudget := s.ppu.offBudget - n } })

/-- Short of the mode's length only the dot moves. At it: OAMScan latches the line's sprites and the penalty and enters PixelPut; PixelPut renders the line, enters HBlank and requests STAT if hblank_int; HBlank moves to the next line, OAMScan (STAT if oam_int) or at line 144 VBlank (VBlank request, STAT if vblank_int); a VBlank line moves on and after 153 wraps to OAMScan of line 0 with frame_valid (STAT if oam_int); each line change compares LY with LYC (STAT if lyc_int). Excess dots carry over. Each clause is a call that makes one transition; several in one call are left to PpuTimeIsAdditive. That the sprites are latched at the first transition is the spec's decision D26, the penalty D27, the compare at line changes alone D33, the carried dots D35. The pulse frame_valid as a field of State is the model's (log entry 9, DEDUCED), and so is the bound of the loop, which no call reaches (log entry 12, DEDUCED). (61_ppu.md section 1, 61_ppu.md section 2, 92_eei_decisions.md D26, 92_eei_decisions.md D27, 92_eei_decisions.md D33, 92_eei_decisions.md D35) -/
def Obligations.PpuModeTransitions : Prop :=
  ∀ (n : Nat) (s : State), s.ppu.lcdc.getLsbD 7 = true →
    let d := s.ppu.dot + n
    let stat (k : Nat) (r : BitVec 5) : BitVec 5 := if s.ppu.statEn.getLsbD k then r ||| 0b00010 else r
    let compare (ly : Byte) (r : BitVec 5) : BitVec 5 := if ly = s.ppu.lyc then stat 3 r else r
    (d < modeLength s.ppu.mode s.ppu.spriteExtra → ppuAdvance n s = { s with ppu := { s.ppu with dot := d } }) ∧
    (s.ppu.mode = .oamScan → 80 ≤ d → d < 80 + 172 →
      ppuAdvance n s =
        { s with
          ppu := { s.ppu with
            dot := d - 80
            mode := .pixelPut
            lineSprites := selectSprites s.ppu.ly.toNat s
            spriteExtra := s.cfg.spritePenaltyDots.val * (selectSprites s.ppu.ly.toNat s).length } }) ∧
    (s.ppu.mode = .pixelPut → 172 + s.ppu.spriteExtra ≤ d → d < 172 + 204 →
      ppuAdvance n s =
        { s with
          ppu := { s.ppu with
            dot := d - (172 + s.ppu.spriteExtra)
            mode := .hBlank
            fb := (renderLine s.ppu.ly.toNat s).ppu.fb }
          ifReg := stat 0 s.ifReg }) ∧
    (s.ppu.mode = .hBlank → s.ppu.ly.toNat < 144 → 204 - s.ppu.spriteExtra ≤ d →
      d < 204 - s.ppu.spriteExtra + 80 →
      let ly := s.ppu.ly + 1
      ppuAdvance n s =
        { s with
          ppu := { s.ppu with
            dot := d - (204 - s.ppu.spriteExtra)
            ly := ly
            spriteExtra := 0
            lineSprites := []
            mode := if ly = 144 then .vBlank else .oamScan }
          ifReg := compare ly (if ly = 144 then stat 1 (s.ifReg ||| 0b00001) else stat 2 s.ifReg) }) ∧
    (s.ppu.mode = .vBlank → s.ppu.ly.toNat < 154 → 456 ≤ d → d < 456 + 80 →
      let ly := if s.ppu.ly = 153 then 0 else s.ppu.ly + 1
      ppuAdvance n s =
        { s with
          ppu := { s.ppu with dot := d - 456, ly := ly, mode := if s.ppu.ly = 153 then .oamScan else .vBlank }
          frameValid := if s.ppu.ly = 153 then true else s.frameValid
          ifReg := compare ly (if s.ppu.ly = 153 then stat 2 s.ifReg else s.ifReg) })

/-- While the PPU is on, in every state whose PPU is in range, advancing by m and then by n equals advancing by m + n: the carried remainder makes mode lengths exact over any number of steps (the spec's decision D35). The bound of the loop, which no call reaches, is the model's (log entry 12, DEDUCED). (61_ppu.md section 1, 92_eei_decisions.md D35) -/
def Obligations.PpuTimeIsAdditive : Prop :=
  ∀ (m n : Nat) (s : State), ppuInRange s → s.ppu.lcdc.getLsbD 7 = true →
    ppuAdvance n (ppuAdvance m s) = ppuAdvance (m + n) s

/-- From dot 0 of OAMScan of a visible line, 456 dots lead to dot 0 of the next line's mode, whatever the sprite count and penalty. From dot 0 of line 0, frame_valid does not pulse before 70224 dots and pulses with them, the PPU back at dot 0 of OAMScan of line 0. Both rest on the spec's decision D35, that the dots left over at a mode change are carried, and take the penalty of D27 for any value of SPRITE_PENALTY_DOTS. The pulse frame_valid as a field of State is the model's (log entry 9, DEDUCED), and so is the bound of the loop, which no call reaches (log entry 12, DEDUCED). (61_ppu.md section 1, 61_ppu.md section 2, 92_eei_decisions.md D35, 92_eei_decisions.md D27) -/
def Obligations.LineAndFrameLength : Prop :=
  ∀ s : State, ppuInRange s → s.ppu.lcdc.getLsbD 7 = true → s.ppu.mode = .oamScan → s.ppu.dot = 0 →
    (let t := ppuAdvance 456 s
     t.ppu.dot = 0 ∧ t.ppu.ly = s.ppu.ly + 1 ∧ t.ppu.mode = (if s.ppu.ly = 143 then .vBlank else .oamScan)) ∧
    (s.ppu.ly = 0 → s.frameValid = false →
      (∀ n < 70224, (ppuAdvance n s).frameValid = false) ∧
      (let t := ppuAdvance 70224 s
       t.frameValid = true ∧ t.ppu.dot = 0 ∧ t.ppu.ly = 0 ∧ t.ppu.mode = .oamScan ∧ t.ifReg.getLsbD 0 = true))

/-- With sprites off nothing is selected. With them on, exactly the entries whose box covers the line are candidates, whatever their X; they are taken in ascending OAM order, at most ten, and one is left out only when ten earlier ones were taken. That X plays no part is the spec's decision D28. (61_ppu.md section 3, 92_eei_decisions.md D28) -/
def Obligations.SpriteSelection : Prop :=
  ∀ (ly : Nat) (s : State),
    let h : Nat := if s.ppu.lcdc.getLsbD 2 then 16 else 8
    let y (i : Nat) : Nat := (Memory.read s.oam (4 * i)).toNat
    let covers (i : Nat) : Prop := y i ≤ ly + 16 ∧ ly + 16 < y i + h
    let sel := selectSprites ly s
    (s.ppu.lcdc.getLsbD 1 = false → sel = []) ∧
    (s.ppu.lcdc.getLsbD 1 = true →
      sel.length ≤ 10 ∧ sel.Pairwise (· < ·) ∧ (∀ i ∈ sel, i < 40 ∧ covers i) ∧
      ∀ i < 40, covers i → i ∉ sel → sel.length = 10 ∧ ∀ j ∈ sel, j < i)

/-- For every line and every state with a canonical framebuffer, the model's renderer equals the loop of the spec: the background pass over the 160 columns, then for each sprite in order and each of its eight columns the write the rule makes (log entry 10, DEDUCED). The sprites are painted in the order of the line's list, or its reverse under OBJ_DRAW_ORDER = descending (the spec's decision D29), from the OAM bytes of the moment, a row outside the sprite skipped (D26) and columns off the screen clipped (D28); the background pass is BackgroundAndWindowPixel's (D31, D32). The output fb at (x, y) has the SHADE_COLOR entry of the shade stored at y * 160 + x. So rendering a line gives its 160 pixels the colours of their final shades and leaves the colour of every pixel of every other line. The table of colours and the row-major order are the spec's decision D30; that shades are stored and the table applied at the output is the model's (log entry 8, DEDUCED), as D30 allows. (61_ppu.md section 4, 61_ppu.md section 5, 00_scope.md section 6, 10_state.md section 6, 92_eei_decisions.md D30, 92_eei_decisions.md D26, 92_eei_decisions.md D28, 92_eei_decisions.md D29, 92_eei_decisions.md D31, 92_eei_decisions.md D32) -/
def Obligations.RenderLineIsTheSpecLoop : Prop :=
  let color (s : State) (shade : BitVec 2) : BitVec 32 :=
    match shade.toNat with
    | 0 => s.cfg.shadeColor.shade0
    | 1 => s.cfg.shadeColor.shade1
    | 2 => s.cfg.shadeColor.shade2
    | _ => s.cfg.shadeColor.shade3
  (∀ (x y : Nat) (s : State), fbPixel x y s = color s (Framebuffer.read s.ppu.fb (y * 160 + x))) ∧
  ∀ (ly : Nat) (s : State), Framebuffer.wf s.ppu.fb →
    renderLine ly s = renderLineByLoops ly s ∧
    ∀ x < 160,
      fbPixel x ly (renderLine ly s) = color s (linePixel x ly s) ∧
      ∀ y : Nat, y ≠ ly → fbPixel x y (renderLine ly s) = fbPixel x y s

/-- With LCDC bit 0 clear the pixel is index 0 and shade 0. Else it is the bit pair of the tile's row and column, the tile taken from the window map where the window covers the pixel and otherwise from the scrolled, wrapping background map, at 0x8000 + 16t or, in signed addressing, at 0x9000 + 16t for t below 128 and 0x8800 + 16(t - 128) above; its shade is BGP's. The window row is ly - WY (decision D31) and bit 0 clear blanks both (D32); that VRAM is one bank is D34. (61_ppu.md section 4, 61_ppu.md section 5, 92_eei_decisions.md D31, 92_eei_decisions.md D32, 92_eei_decisions.md D34) -/
def Obligations.BackgroundAndWindowPixel : Prop :=
  ∀ (x ly : Nat) (s : State), x < 160 → ly < 144 →
    let bit (k : Nat) : Bool := s.ppu.lcdc.getLsbD k
    let wy := s.ppu.wy.toNat
    let wx := s.ppu.wx.toNat
    let inWin : Bool := bit 5 && decide (wy ≤ ly) && decide (wx ≤ x + 7)
    let px := if inWin then x + 7 - wx else (x + s.ppu.scx.toNat) % 256
    let py := if inWin then ly - wy else (ly + s.ppu.scy.toNat) % 256
    let map := if (if inWin then bit 6 else bit 3) then 0x9C00 else 0x9800
    let vram (addr : Nat) : Byte := Memory.read s.vram.buf (addr - 0x8000)
    let t := (vram (map + 32 * (py / 8) + px / 8)).toNat
    let tile := if bit 4 then 0x8000 + 16 * t else if t < 128 then 0x9000 + 16 * t else 0x8800 + 16 * (t - 128)
    let lo := vram (tile + 2 * (py % 8))
    let hi := vram (tile + 2 * (py % 8) + 1)
    let idx := 2 * (hi.getLsbD (7 - px % 8)).toNat + (lo.getLsbD (7 - px % 8)).toNat
    (bit 0 = false → bgWinPixel x ly s = (0, 0)) ∧
    (bit 0 = true → bgWinPixel x ly s = (BitVec.ofNat 2 idx, BitVec.ofNat 2 (s.ppu.bgp.toNat / 4 ^ idx % 4)))

/-- Under reference only DIV moves. Under full with TAC bit 2 set, TIMA counts once for each multiple of the period (1024, 16, 64, 256) that DIV crosses; the count past 0xFF loads TMA and sets IF bit 2. Advancing by m then n equals advancing by m + n. TIMER_MODE is a parameter (the spec's decision D20), that DIV counts one per master cycle D36. (62_timer_dma_joypad.md section 1, 92_eei_decisions.md D20, 92_eei_decisions.md D36) -/
def Obligations.TimerAdvance : Prop :=
  ∀ (m n : Nat) (s : State),
    let t := timerAdvance n s
    let old := s.timer.div.toNat
    let period := match s.timer.tac.toNat % 4 with
      | 0 => 1024
      | 1 => 16
      | 2 => 64
      | _ => 256
    let k := (old + n) / period - old / period
    t.timer.div = BitVec.ofNat 16 (old + n) ∧
    t = { s with timer := { s.timer with div := t.timer.div, tima := t.timer.tima }, ifReg := t.ifReg } ∧
    (s.cfg.timerMode = .reference ∨ s.timer.tac.getLsbD 2 = false → t.timer.tima = s.timer.tima ∧ t.ifReg = s.ifReg) ∧
    (s.cfg.timerMode = .full → s.timer.tac.getLsbD 2 = true →
      (s.timer.tima.toNat + k < 256 → t.timer.tima = s.timer.tima + BitVec.ofNat 8 k ∧ t.ifReg = s.ifReg) ∧
      (s.timer.tima.toNat + k = 256 → t.timer.tima = s.timer.tma ∧ t.ifReg = s.ifReg ||| 0b00100)) ∧
    timerAdvance n (timerAdvance m s) = timerAdvance (m + n) s

/-- While active at index j up to 160, n cycles copy the k = min(n div 4, 160 - j) source bytes at j to j + k - 1 into OAM as the raw bus reads them, leave every other OAM byte and everything but OAM and the index, and end the transfer exactly at 160, however many cycles are left over. An inactive engine does nothing. For j = 0 and n = 640 OAM is byte for byte the source block. That the copy goes over the raw bus, past the PPU lockouts, is the spec's decision D21. (62_timer_dma_joypad.md section 2, 20_memory.md section 6, 92_eei_decisions.md D21) -/
def Obligations.DmaCopiesTheBlock : Prop :=
  ∀ (n : Nat) (s : State), memoriesWf s →
    (s.dma.active = false → dmaAdvance n s = s) ∧
    (s.dma.active = true → s.dma.index ≤ 160 →
      let k := min (n / 4) (160 - s.dma.index)
      let t := dmaAdvance n s
      let source (i : Nat) : Word := BitVec.ofNat 16 (256 * s.dma.reg.toNat + i)
      t = { s with oam := t.oam, dma := { s.dma with index := s.dma.index + k, active := decide (s.dma.index + k < 160) } } ∧
      ∀ i < 160, Memory.read t.oam i =
        if s.dma.index ≤ i ∧ i < s.dma.index + k then rawRead (source i) s else Memory.read s.oam i)

/-- With a 256-byte boot ROM, an image of a multiple of 0x4000 bytes, at least 0x8000 (exactly 0x8000 for code 0), a mapper code and a RAM code of the tables and RAM contents of the declared size, the launch gives a state that meets the invariant. Its mapper and CART_RAM_SIZE are those of the codes, the mapper's registers at reset; the parameters, the coming inputs, every ROM, boot ROM and cartridge RAM byte are as given; work RAM, VRAM, OAM and high RAM hold INIT_RAM; every other field is State.reset's. Otherwise it is refused. The tables are the spec's decisions D14, D15, the reset values D2, D4, D22, D25; that wrong lengths of the other two images refuse, the snapshot, the input list and the two pulses of State.reset are the model's (log entries 17, 1, 6, 9). (21_cartridge_mapper.md section 1, 00_scope.md section 4, 10_state.md section 8, 10_state.md section 10, 92_eei_decisions.md D2, 92_eei_decisions.md D4, 92_eei_decisions.md D14, 92_eei_decisions.md D15, 92_eei_decisions.md D22, 92_eei_decisions.md D25) -/
def Obligations.LaunchFromTheHeader : Prop :=
  ∀ p : LaunchParams,
    let code := (p.cartRom.getD 0x147 0).toNat
    let ramCode := (p.cartRom.getD 0x149 0).toNat
    let len := p.cartRom.length
    let ramBytes : Nat := match ramCode with
      | 1 => 0x800
      | 2 => 0x2000
      | 3 => 0x8000
      | _ => 0
    if p.bootRom.length = 256 ∧ len % 0x4000 = 0 ∧ 0x8000 ≤ len ∧
        (code = 0 ∧ len = 0x8000 ∨ code ∈ [0x01, 0x02, 0x03, 0x0F, 0x10, 0x11, 0x12, 0x13]) ∧
        ramCode ≤ 3 ∧ p.cartRamInit.length = ramBytes then
      ∃ t, launch p = .next t ∧ Inv t ∧
        t = { State.reset with
          cfg :=
            { romBankCount := len / 0x4000
              cartRamSize :=
                match ramCode with
                | 0 => .none
                | 1 => .kb2
                | 2 => .kb8
                | _ => .kb32
              initRam := p.initRam
              timerMode := p.timerMode
              stopMode := p.stopMode
              spritePenaltyDots := p.spritePenaltyDots
              objDrawOrder := p.objDrawOrder
              shadeColor := p.shadeColor
              mbcRamenPolicy := p.mbcRamenPolicy }
          mapper :=
            if code = 0 then .noMapper
            else if code ≤ 3 then .mbc1 { ramEnabled := false, romBank := 1, secBank := 0, bankingMode := false }
            else .mbc3 { ramEnabled := false, romBank := 1, secBank := 0 }
          joyInputs := p.joyInputs
          rom := { buf := t.rom.buf, current := 1 }
          bootRom := t.bootRom
          cartRam := { buf := t.cartRam.buf, current := 0 }
          vram := { buf := t.vram.buf, current := 0 }
          wram := { buf := t.wram.buf, current := 0 }
          oam := t.oam
          hram := t.hram } ∧
        (∀ i : Nat, Memory.read t.rom.buf i = p.cartRom.getD i 0) ∧
        (∀ i : Nat, Memory.read t.bootRom i = p.bootRom.getD i 0) ∧
        (∀ i : Nat, Memory.read t.cartRam.buf i = p.cartRamInit.getD i 0) ∧
        (∀ i < 0x2000, Memory.read t.vram.buf i = p.initRam ∧ Memory.read t.wram.buf i = p.initRam) ∧
        (∀ i < 160, Memory.read t.oam i = p.initRam) ∧ (∀ i < 127, Memory.read t.hram i = p.initRam)
    else ∃ r, launch p = .refused r

/-- State.reset meets Inv and holds every value of R51: registers, PC, SP, control bits, cycle counts, IE, IF, timer, joy_select, DMA and PPU at their values, the overlay on, no mapper and ROM bank 1 with every other current bank 0, every pixel of the output SHADE_COLOR[0], RAM at INIT_RAM. The values are the spec's decisions D2, D4, that of joy_select D22, that of off_budget D25. The images and parameters of State.reset, so that the mapper is NoMapper, are the model's (log entries 2 to 5), and so are the two pulses at 0 (log entry 9, DEDUCED). (10_state.md section 10, 70_reset_and_hazards.md section 1, 92_eei_decisions.md D2, 92_eei_decisions.md D4, 92_eei_decisions.md D22, 92_eei_decisions.md D25) -/
def Obligations.ResetMeetsTheInvariant : Prop :=
  let r := State.reset
  Inv r ∧
  r.regs = { a := 0, f := 0, b := 0, c := 0, d := 0, e := 0, h := 0, l := 0 } ∧
  r.pc = 0 ∧ r.sp = 0 ∧ r.ime = false ∧ r.imePending = false ∧ r.halted = false ∧ r.fault = false ∧
  r.stepCycles = 0 ∧ r.cycTotal = 0 ∧ r.ie = 0 ∧ r.ifReg = 0 ∧
  r.timer = { div := 0, tima := 0, tma := 0, tac := 0 } ∧ r.joySelect = 0b11 ∧
  r.ppu =
    { lcdc := 0, statEn := 0, scy := 0, scx := 0, ly := 0, lyc := 0, bgp := 0, obp0 := 0, obp1 := 0, wy := 0, wx := 0,
      mode := .hBlank, dot := 0, spriteExtra := 0, lineSprites := [], offBudget := 70224, fb := r.ppu.fb } ∧
  (∀ x y : Nat, fbPixel x y r = r.cfg.shadeColor.shade0) ∧
  r.dma = { reg := 0, active := false, index := 0 } ∧ r.bootEnabled = true ∧ r.mapper = .noMapper ∧
  r.rom.current = 1 ∧ r.vram.current = 0 ∧ r.cartRam.current = 0 ∧ r.wram.current = 0 ∧
  (∀ i : Nat, Memory.read r.vram.buf i = r.cfg.initRam ∧ Memory.read r.wram.buf i = r.cfg.initRam ∧
    Memory.read r.oam i = r.cfg.initRam ∧ Memory.read r.hram i = r.cfg.initRam) ∧
  r.frameValid = false ∧ r.blankFrame = false

/-- From every state the reset input gives State.reset with these fields replaced: the parameters, the ROM and boot images, the contents of cartridge RAM and the coming inputs stay as they were, the mapper keeps its kind with its registers at reset, ROM is at bank 1 and every other memory at bank 0, and work RAM, VRAM, OAM and high RAM hold INIT_RAM. From a state that meets the invariant with at least two ROM banks, the result meets it. The reset is the spec's decision D3, its values D2 (RAM and the framebuffer), D4, D22, D25. The model's own are the reset input as a function that no step raises and the coming inputs kept by it (log entry 16, DESIGN CHOICE; the list itself is log entry 6), the snapshot at 0 (log entry 1) and the two pulses at 0 (log entry 9, DEDUCED). (70_reset_and_hazards.md section 1, 10_state.md section 8, 10_state.md section 10, 92_eei_decisions.md D2, 92_eei_decisions.md D3, 92_eei_decisions.md D4, 92_eei_decisions.md D22, 92_eei_decisions.md D25) -/
def Obligations.ResetInputKeepsCartridge : Prop :=
  ∀ s : State,
    let t := State.rst s
    t = { State.reset with
      cfg := s.cfg
      mapper :=
        match s.mapper with
        | .noMapper => .noMapper
        | .mbc1 _ => .mbc1 { ramEnabled := false, romBank := 1, secBank := 0, bankingMode := false }
        | .mbc3 _ => .mbc3 { ramEnabled := false, romBank := 1, secBank := 0 }
      joyInputs := s.joyInputs
      rom := { buf := s.rom.buf, current := 1 }
      bootRom := s.bootRom
      cartRam := { buf := s.cartRam.buf, current := 0 }
      vram := { buf := t.vram.buf, current := 0 }
      wram := { buf := t.wram.buf, current := 0 }
      oam := t.oam
      hram := t.hram } ∧
    (∀ i < 0x2000, Memory.read t.wram.buf i = s.cfg.initRam ∧ Memory.read t.vram.buf i = s.cfg.initRam) ∧
    (∀ i < 160, Memory.read t.oam i = s.cfg.initRam) ∧ (∀ i < 127, Memory.read t.hram i = s.cfg.initRam) ∧
    (Inv s → 2 ≤ s.cfg.romBankCount → Inv t)

/-- From every state that meets it, a step that gives a next state gives one that meets it: memories and framebuffer canonical and within their size, F's low nibble 0, bank indices below their counts, the PPU's line, mode, dot, sprite list and budget in range, the DMA index in range. The ranges rest on the spec's decisions D25 (the PPU at rest and the budget), D26 and D27 (the sprite list and the penalty), D34 (one bank of VRAM and of work RAM). Counters as naturals and integers with their bounds in the invariant are the model's (log entry 15, DESIGN CHOICE), and so are the shades as the framebuffer's contents (log entry 8, DEDUCED). (10_state.md section 1, 10_state.md section 6, 10_state.md section 7, 61_ppu.md section 2, 92_eei_decisions.md D25, 92_eei_decisions.md D26, 92_eei_decisions.md D27, 92_eei_decisions.md D34) -/
def Obligations.StepKeepsTheInvariant : Prop :=
  ∀ s t : State, Inv s → step s = .next t → Inv t

/-- A step leaves the parameters, every ROM and boot ROM byte and the mapper kind, never sets boot_enabled, and, unless it raised the fault, adds its cycles to cyc_total and moves the input list on by one. That nothing but reset sets boot_enabled back is the spec's decision D23, that the cycles of an interrupt entry count D6, that the faulting step's do not D8. The input list is the model's own field (log entry 6, DESIGN CHOICE), which says both that a step uses up one sample and that the faulting step keeps its own. (00_scope.md section 4, 20_memory.md section 3, 10_state.md section 5, 92_eei_decisions.md D6, 92_eei_decisions.md D8, 92_eei_decisions.md D23) -/
def Obligations.StepKeepsConstants : Prop :=
  ∀ s t : State, step s = .next t →
    t.cfg = s.cfg ∧ t.rom.buf = s.rom.buf ∧ t.bootRom = s.bootRom ∧
    (t.bootEnabled = true → s.bootEnabled = true) ∧
    (match s.mapper, t.mapper with
      | .noMapper, .noMapper => True
      | .mbc1 _, .mbc1 _ => True
      | .mbc3 _, .mbc3 _ => True
      | _, _ => False) ∧
    (t.fault = false → t.cycTotal = s.cycTotal + BitVec.ofNat 64 t.stepCycles ∧ t.joyInputs = s.joyInputs.tail)

/-- The cycle count a step leaves is a multiple of 4, at least 4 and at most 44. For the next state that raised the fault the count is the 4 cycles of the failing fetch, which is the model's (log entry 7, DEDUCED); that an interrupt entry's 20 cycles count is the spec's decision D6. (70_reset_and_hazards.md section 3, 60_exceptions.md section 1, 92_eei_decisions.md D6) -/
def Obligations.StepCost : Prop :=
  ∀ s t : State, step s = .next t → t.stepCycles % 4 = 0 ∧ 4 ≤ t.stepCycles ∧ t.stepCycles ≤ 44
end

