-- ==== Sys2Proof/Laws/Memory.lean ====
section
/-! SUPPORT. The laws of the canonical memories: read after write, the rest left alone, the canonical form and the size kept. -/

namespace Sys2Proof.Machine

/-- The rising form of the keys, seen from the head. -/
theorem Sparse.wf_cons {α : Type} {d : α} {c : Nat × α} {m : List (Nat × α)} :
    Sparse.wf d (c :: m) ↔ (∀ e ∈ m, c.1 < e.1) ∧ c.2 ≠ d ∧ Sparse.wf d m := by
  simp only [Sparse.wf, List.map_cons, List.pairwise_cons, List.mem_map, forall_exists_index, and_imp,
    forall_apply_eq_imp_iff₂, List.mem_cons, forall_eq_or_imp]
  tauto

theorem Sparse.wf_nil {α : Type} (d : α) : Sparse.wf d ([] : List (Nat × α)) := by simp [Sparse.wf]

/-- Below every key a memory reads as unlisted. -/
theorem Sparse.read_below {α : Type} (d : α) (m : List (Nat × α)) (a : Nat) (h : ∀ e ∈ m, a < e.1) :
    Sparse.read d m a = d := by
  cases m with
  | nil => rfl
  | cons c m => simp [Sparse.read, h c (List.mem_cons_self ..)]

/-- Every key after a write is the written one or one that was there. -/
theorem Sparse.write_keys {α : Type} [DecidableEq α] (d : α) (m : List (Nat × α)) (a : Nat) (v : α) :
    ∀ e ∈ Sparse.write d m a v, e.1 = a ∨ ∃ e' ∈ m, e'.1 = e.1 := by
  induction m with
  | nil => unfold Sparse.write; split <;> simp
  | cons c m ih =>
    obtain ⟨k, w⟩ := c
    unfold Sparse.write
    split
    · split
      · exact fun e he => .inr ⟨e, he, rfl⟩
      · intro e he
        rcases List.mem_cons.mp he with rfl | he
        · exact .inl rfl
        · exact .inr ⟨e, he, rfl⟩
    · split
      · split
        · exact fun e he => .inr ⟨e, List.mem_cons_of_mem _ he, rfl⟩
        · intro e he
          rcases List.mem_cons.mp he with rfl | he
          · exact .inl rfl
          · exact .inr ⟨e, List.mem_cons_of_mem _ he, rfl⟩
      · intro e he
        rcases List.mem_cons.mp he with rfl | he
        · exact .inr ⟨_, List.mem_cons_self .., rfl⟩
        · rcases ih e he with h | ⟨e', he', h⟩
          · exact .inl h
          · exact .inr ⟨e', List.mem_cons_of_mem _ he', h⟩

/-- A write keeps the canonical form. -/
theorem Sparse.write_wf {α : Type} [DecidableEq α] (d : α) (m : List (Nat × α)) (a : Nat) (v : α)
    (h : Sparse.wf d m) : Sparse.wf d (Sparse.write d m a v) := by
  induction m with
  | nil =>
    unfold Sparse.write
    split
    · exact Sparse.wf_nil d
    · rename_i hv; exact Sparse.wf_cons.mpr ⟨by simp, hv, Sparse.wf_nil d⟩
  | cons c m ih =>
    obtain ⟨k, w⟩ := c
    obtain ⟨hk, hw, hm⟩ := Sparse.wf_cons.mp h
    unfold Sparse.write
    split
    · rename_i hlt
      split
      · exact h
      · rename_i hv
        refine Sparse.wf_cons.mpr ⟨fun e he => ?_, hv, h⟩
        rcases List.mem_cons.mp he with rfl | he
        · exact hlt
        · exact lt_trans hlt (hk e he)
    · rename_i hnlt
      split
      · rename_i heq
        split
        · exact hm
        · rename_i hv
          exact Sparse.wf_cons.mpr ⟨fun e he => heq ▸ hk e he, hv, hm⟩
      · rename_i hne
        refine Sparse.wf_cons.mpr ⟨fun e he => ?_, hw, ih hm⟩
        rcases Sparse.write_keys d m a v e he with h | ⟨e', he', h⟩
        · simp only [h]; omega
        · rw [← h]; exact hk e' he'

/-- Reading the written address gives the written value. -/
theorem Sparse.read_write_same {α : Type} [DecidableEq α] (d : α) (m : List (Nat × α)) (a : Nat) (v : α)
    (h : Sparse.wf d m) : Sparse.read d (Sparse.write d m a v) a = v := by
  induction m with
  | nil =>
    unfold Sparse.write
    split
    · rename_i hv; simp [Sparse.read, hv]
    · simp [Sparse.read]
  | cons c m ih =>
    obtain ⟨k, w⟩ := c
    obtain ⟨hk, hw, hm⟩ := Sparse.wf_cons.mp h
    unfold Sparse.write
    split
    · rename_i hlt
      split
      · rename_i hv; simp [Sparse.read, hlt, hv]
      · simp [Sparse.read]
    · rename_i hnlt
      split
      · rename_i heq
        split
        · rename_i hv
          rw [hv]
          exact Sparse.read_below d m a fun e he => heq ▸ hk e he
        · simp [Sparse.read]
      · rename_i hne
        simp [Sparse.read, hnlt, hne, ih hm]

/-- Reading another address gives what it gave before. -/
theorem Sparse.read_write_other {α : Type} [DecidableEq α] (d : α) (m : List (Nat × α)) (a b : Nat) (v : α)
    (hab : b ≠ a) (h : Sparse.wf d m) : Sparse.read d (Sparse.write d m a v) b = Sparse.read d m b := by
  induction m with
  | nil =>
    unfold Sparse.write
    split
    · rfl
    · simp only [Sparse.read, if_neg hab, ite_self]
  | cons c m ih =>
    obtain ⟨k, w⟩ := c
    obtain ⟨hk, hw, hm⟩ := Sparse.wf_cons.mp h
    unfold Sparse.write
    split
    · rename_i hlt
      split
      · rfl
      · by_cases hb : b < a
        · simp [Sparse.read, hb, lt_trans hb hlt]
        · simp [Sparse.read, hb, hab]
    · rename_i hnlt
      split
      · rename_i heq
        subst heq
        have hbelow : b < a → Sparse.read d m b = d := fun hb =>
          Sparse.read_below d m b fun e he => lt_trans hb (hk e he)
        split
        · by_cases hb : b < a
          · simp [Sparse.read, hb, hbelow hb]
          · simp [Sparse.read, hb, hab]
        · simp [Sparse.read, hab]
      · simp only [Sparse.read, ih hm]

/-- A memory made from values has the form and holds nothing below its start. -/
theorem Sparse.ofValues_wf {α : Type} [DecidableEq α] (d : α) (vs : List α) :
    ∀ a, Sparse.wf d (Sparse.ofValues d a vs) ∧ ∀ e ∈ Sparse.ofValues d a vs, a ≤ e.1 ∧ e.1 < a + vs.length := by
  induction vs with
  | nil => exact fun a => ⟨Sparse.wf_nil d, by simp [Sparse.ofValues]⟩
  | cons v vs ih =>
    intro a
    obtain ⟨hw, hk⟩ := ih (a + 1)
    have hk' : ∀ e ∈ Sparse.ofValues d (a + 1) vs, a ≤ e.1 ∧ e.1 < a + (v :: vs).length := fun e he => by
      have := hk e he; simp only [List.length_cons]; omega
    unfold Sparse.ofValues
    split
    · exact ⟨hw, hk'⟩
    · rename_i hv
      refine ⟨Sparse.wf_cons.mpr ⟨fun e he => by have := hk e he; simp only; omega, hv, hw⟩, fun e he => ?_⟩
      rcases List.mem_cons.mp he with rfl | he
      · simp
      · exact hk' e he

/-- A memory made from values reads those values, and the unlisted value past them. -/
theorem Sparse.read_ofValues {α : Type} [DecidableEq α] (d : α) (vs : List α) :
    ∀ a i, Sparse.read d (Sparse.ofValues d a vs) (a + i) = vs.getD i d := by
  induction vs with
  | nil => simp [Sparse.ofValues, Sparse.read]
  | cons v vs ih =>
    intro a i
    have hb : Sparse.read d (Sparse.ofValues d (a + 1) vs) a = d :=
      Sparse.read_below d _ a fun e he => by have := (Sparse.ofValues_wf d vs (a + 1)).2 e he; omega
    have ih' : ∀ j, Sparse.read d (Sparse.ofValues d (a + 1) vs) (a + (j + 1)) = vs.getD j d := fun j => by
      rw [← ih (a + 1) j]; congr 1; omega
    unfold Sparse.ofValues
    cases i with
    | zero =>
      split
      · rename_i hv; simpa [hv] using hb
      · simp [Sparse.read]
    | succ j =>
      split
      · simpa using ih' j
      · rw [Sparse.read, if_neg (by omega), if_neg (by omega)]; simpa using ih' j

/-- Every memory operation keeps the canonical form. -/
theorem Memory.write_wf (m : Memory) (a : Nat) (v : Byte) (h : Memory.wf m) : Memory.wf (Memory.write m a v) :=
  Sparse.write_wf _ m a v h

theorem Memory.read_write_same (m : Memory) (a : Nat) (v : Byte) (h : Memory.wf m) :
    Memory.read (Memory.write m a v) a = v := Sparse.read_write_same _ m a v h

theorem Memory.read_write_other (m : Memory) (a b : Nat) (v : Byte) (hab : b ≠ a) (h : Memory.wf m) :
    Memory.read (Memory.write m a v) b = Memory.read m b := Sparse.read_write_other _ m a b v hab h

theorem Memory.ofBytes_wf (bs : List Byte) : Memory.wf (Memory.ofBytes bs) := (Sparse.ofValues_wf _ bs 0).1

theorem Memory.filled_wf (n : Nat) (v : Byte) : Memory.wf (Memory.filled n v) := Memory.ofBytes_wf _

theorem Memory.read_ofBytes (bs : List Byte) (i : Nat) : Memory.read (Memory.ofBytes bs) i = bs.getD i Memory.unlisted := by
  have := Sparse.read_ofValues Memory.unlisted bs 0 i
  simpa [Memory.read, Memory.ofBytes] using this

theorem Memory.read_filled (n i : Nat) (v : Byte) (h : i < n) : Memory.read (Memory.filled n v) i = v := by
  unfold Memory.filled
  rw [Memory.read_ofBytes, List.getD_eq_getElem?_getD, List.getElem?_replicate, if_pos h]
  rfl

theorem Framebuffer.write_wf (m : Framebuffer) (i : Nat) (v : BitVec 2) (h : Framebuffer.wf m) :
    Framebuffer.wf (Framebuffer.write m i v) := Sparse.write_wf _ m i v h

theorem Framebuffer.read_write_same (m : Framebuffer) (i : Nat) (v : BitVec 2) (h : Framebuffer.wf m) :
    Framebuffer.read (Framebuffer.write m i v) i = v := Sparse.read_write_same _ m i v h

theorem Framebuffer.read_write_other (m : Framebuffer) (i j : Nat) (v : BitVec 2) (hij : j ≠ i)
    (h : Framebuffer.wf m) : Framebuffer.read (Framebuffer.write m i v) j = Framebuffer.read m j :=
  Sparse.read_write_other _ m i j v hij h

/-- A write below the size keeps the list within its size. -/
theorem Sparse.write_within {α : Type} [DecidableEq α] (d : α) (size : Nat) (m : List (Nat × α)) (a : Nat) (v : α)
    (ha : a < size) (h : Sparse.within size m = true) : Sparse.within size (Sparse.write d m a v) = true := by
  simp only [Sparse.within, List.all_eq_true, decide_eq_true_eq] at h ⊢
  intro e he
  rcases Sparse.write_keys _ m a v e he with h1 | ⟨e', he', h1⟩
  · omega
  · have := h e' he'; omega

theorem Memory.write_within (size : Nat) (m : Memory) (a : Nat) (v : Byte) (ha : a < size)
    (h : Memory.within size m = true) : Memory.within size (Memory.write m a v) = true :=
  Sparse.write_within _ size m a v ha h

theorem Framebuffer.write_within (m : Framebuffer) (i : Nat) (v : BitVec 2) (hi : i < 160 * 144)
    (h : Framebuffer.within m = true) : Framebuffer.within (Framebuffer.write m i v) = true :=
  Sparse.write_within _ _ m i v hi h

/-- A bank write keeps the canonical form, whatever the bank and offset. -/
theorem bankWrite_wf (g : BankGeom) (off : Nat) (v : Byte) (b : Bank) (h : Memory.wf b.buf) :
    Memory.wf (bankWrite g off v b).buf := by
  unfold bankWrite
  split
  · exact h
  · split
    · exact Memory.write_wf _ _ _ h
    · exact h

/-- A bank write keeps the bank's size while `current_bank < bank_count` (spec/10_state.md R47). -/
theorem bankWrite_within (g : BankGeom) (off : Nat) (v : Byte) (b : Bank) (hc : b.current < g.count)
    (h : Memory.within (g.count * g.size) b.buf = true) :
    Memory.within (g.count * g.size) (bankWrite g off v b).buf = true := by
  unfold bankWrite
  split
  · exact h
  · split
    · rename_i hlt
      refine Memory.write_within _ _ _ _ ?_ h
      calc b.current * g.size + off < b.current * g.size + g.size := by omega
        _ = (b.current + 1) * g.size := by ring
        _ ≤ g.count * g.size := Nat.mul_le_mul_right _ hc
    · exact h

/-- Neither the switch nor the write of a bank moves its index out of range (spec/20_memory.md R91). -/
theorem switchBank_lt (g : BankGeom) (n : Nat) (b : Bank) (hg : 0 < g.count) : (switchBank g n b).current < g.count :=
  Nat.mod_lt _ hg

@[simp] theorem switchBank_buf (g : BankGeom) (n : Nat) (b : Bank) : (switchBank g n b).buf = b.buf := rfl

@[simp] theorem bankWrite_current (g : BankGeom) (off : Nat) (v : Byte) (b : Bank) :
    (bankWrite g off v b).current = b.current := by
  unfold bankWrite; split <;> [rfl; (split <;> rfl)]

/-- The memory after reset has the form. -/
theorem reset_memoriesWf : memoriesWf State.reset := by
  refine ⟨?_, ?_, ?_, ?_, ?_, ?_, ?_, ?_⟩ <;> exact Sparse.wf_nil _

end Sys2Proof.Machine
end

