-- ==== Sys2Proof/Laws/State.lean ====
section
/-! SUPPORT. For each named update of the state, one lemma per field: which fields it leaves as they are, and what the others become. -/

namespace Sys2Proof.Machine

@[simp] theorem tick_regs (n : Nat) (s : State) : (tick n s).regs = s.regs := rfl
@[simp] theorem tick_pc (n : Nat) (s : State) : (tick n s).pc = s.pc := rfl
@[simp] theorem tick_sp (n : Nat) (s : State) : (tick n s).sp = s.sp := rfl
@[simp] theorem tick_ime (n : Nat) (s : State) : (tick n s).ime = s.ime := rfl
@[simp] theorem tick_imePending (n : Nat) (s : State) : (tick n s).imePending = s.imePending := rfl
@[simp] theorem tick_halted (n : Nat) (s : State) : (tick n s).halted = s.halted := rfl
@[simp] theorem tick_fault (n : Nat) (s : State) : (tick n s).fault = s.fault := rfl
@[simp] theorem tick_snapshot (n : Nat) (s : State) : (tick n s).snapshot = s.snapshot := rfl
@[simp] theorem tick_stepCycles (n : Nat) (s : State) : (tick n s).stepCycles = s.stepCycles + n := rfl
@[simp] theorem tick_cycTotal (n : Nat) (s : State) : (tick n s).cycTotal = s.cycTotal := rfl
@[simp] theorem tick_ie (n : Nat) (s : State) : (tick n s).ie = s.ie := rfl
@[simp] theorem tick_ifReg (n : Nat) (s : State) : (tick n s).ifReg = s.ifReg := rfl
@[simp] theorem tick_rom (n : Nat) (s : State) : (tick n s).rom = s.rom := rfl
@[simp] theorem tick_bootRom (n : Nat) (s : State) : (tick n s).bootRom = s.bootRom := rfl
@[simp] theorem tick_bootEnabled (n : Nat) (s : State) : (tick n s).bootEnabled = s.bootEnabled := rfl
@[simp] theorem tick_vram (n : Nat) (s : State) : (tick n s).vram = s.vram := rfl
@[simp] theorem tick_cartRam (n : Nat) (s : State) : (tick n s).cartRam = s.cartRam := rfl
@[simp] theorem tick_wram (n : Nat) (s : State) : (tick n s).wram = s.wram := rfl
@[simp] theorem tick_oam (n : Nat) (s : State) : (tick n s).oam = s.oam := rfl
@[simp] theorem tick_hram (n : Nat) (s : State) : (tick n s).hram = s.hram := rfl
@[simp] theorem tick_mapper (n : Nat) (s : State) : (tick n s).mapper = s.mapper := rfl
@[simp] theorem tick_joySelect (n : Nat) (s : State) : (tick n s).joySelect = s.joySelect := rfl
@[simp] theorem tick_timer (n : Nat) (s : State) : (tick n s).timer = s.timer := rfl
@[simp] theorem tick_ppu (n : Nat) (s : State) : (tick n s).ppu = s.ppu := rfl
@[simp] theorem tick_dma (n : Nat) (s : State) : (tick n s).dma = s.dma := rfl
@[simp] theorem tick_frameValid (n : Nat) (s : State) : (tick n s).frameValid = s.frameValid := rfl
@[simp] theorem tick_blankFrame (n : Nat) (s : State) : (tick n s).blankFrame = s.blankFrame := rfl
@[simp] theorem tick_joyInputs (n : Nat) (s : State) : (tick n s).joyInputs = s.joyInputs := rfl
@[simp] theorem tick_cfg (n : Nat) (s : State) : (tick n s).cfg = s.cfg := rfl

@[simp] theorem jumpTo_regs (a : Word) (s : State) : (jumpTo a s).regs = s.regs := rfl
@[simp] theorem jumpTo_pc (a : Word) (s : State) : (jumpTo a s).pc = a := rfl
@[simp] theorem jumpTo_sp (a : Word) (s : State) : (jumpTo a s).sp = s.sp := rfl
@[simp] theorem jumpTo_ime (a : Word) (s : State) : (jumpTo a s).ime = s.ime := rfl
@[simp] theorem jumpTo_imePending (a : Word) (s : State) : (jumpTo a s).imePending = s.imePending := rfl
@[simp] theorem jumpTo_halted (a : Word) (s : State) : (jumpTo a s).halted = s.halted := rfl
@[simp] theorem jumpTo_fault (a : Word) (s : State) : (jumpTo a s).fault = s.fault := rfl
@[simp] theorem jumpTo_snapshot (a : Word) (s : State) : (jumpTo a s).snapshot = s.snapshot := rfl
@[simp] theorem jumpTo_stepCycles (a : Word) (s : State) : (jumpTo a s).stepCycles = s.stepCycles := rfl
@[simp] theorem jumpTo_cycTotal (a : Word) (s : State) : (jumpTo a s).cycTotal = s.cycTotal := rfl
@[simp] theorem jumpTo_ie (a : Word) (s : State) : (jumpTo a s).ie = s.ie := rfl
@[simp] theorem jumpTo_ifReg (a : Word) (s : State) : (jumpTo a s).ifReg = s.ifReg := rfl
@[simp] theorem jumpTo_rom (a : Word) (s : State) : (jumpTo a s).rom = s.rom := rfl
@[simp] theorem jumpTo_bootRom (a : Word) (s : State) : (jumpTo a s).bootRom = s.bootRom := rfl
@[simp] theorem jumpTo_bootEnabled (a : Word) (s : State) : (jumpTo a s).bootEnabled = s.bootEnabled := rfl
@[simp] theorem jumpTo_vram (a : Word) (s : State) : (jumpTo a s).vram = s.vram := rfl
@[simp] theorem jumpTo_cartRam (a : Word) (s : State) : (jumpTo a s).cartRam = s.cartRam := rfl
@[simp] theorem jumpTo_wram (a : Word) (s : State) : (jumpTo a s).wram = s.wram := rfl
@[simp] theorem jumpTo_oam (a : Word) (s : State) : (jumpTo a s).oam = s.oam := rfl
@[simp] theorem jumpTo_hram (a : Word) (s : State) : (jumpTo a s).hram = s.hram := rfl
@[simp] theorem jumpTo_mapper (a : Word) (s : State) : (jumpTo a s).mapper = s.mapper := rfl
@[simp] theorem jumpTo_joySelect (a : Word) (s : State) : (jumpTo a s).joySelect = s.joySelect := rfl
@[simp] theorem jumpTo_timer (a : Word) (s : State) : (jumpTo a s).timer = s.timer := rfl
@[simp] theorem jumpTo_ppu (a : Word) (s : State) : (jumpTo a s).ppu = s.ppu := rfl
@[simp] theorem jumpTo_dma (a : Word) (s : State) : (jumpTo a s).dma = s.dma := rfl
@[simp] theorem jumpTo_frameValid (a : Word) (s : State) : (jumpTo a s).frameValid = s.frameValid := rfl
@[simp] theorem jumpTo_blankFrame (a : Word) (s : State) : (jumpTo a s).blankFrame = s.blankFrame := rfl
@[simp] theorem jumpTo_joyInputs (a : Word) (s : State) : (jumpTo a s).joyInputs = s.joyInputs := rfl
@[simp] theorem jumpTo_cfg (a : Word) (s : State) : (jumpTo a s).cfg = s.cfg := rfl

@[simp] theorem writeReg8_pc (r : Reg8) (v : Byte) (s : State) : (writeReg8 r v s).pc = s.pc := by cases r <;> rfl
@[simp] theorem writeReg8_sp (r : Reg8) (v : Byte) (s : State) : (writeReg8 r v s).sp = s.sp := by cases r <;> rfl
@[simp] theorem writeReg8_ime (r : Reg8) (v : Byte) (s : State) : (writeReg8 r v s).ime = s.ime := by cases r <;> rfl
@[simp] theorem writeReg8_imePending (r : Reg8) (v : Byte) (s : State) : (writeReg8 r v s).imePending = s.imePending := by cases r <;> rfl
@[simp] theorem writeReg8_halted (r : Reg8) (v : Byte) (s : State) : (writeReg8 r v s).halted = s.halted := by cases r <;> rfl
@[simp] theorem writeReg8_fault (r : Reg8) (v : Byte) (s : State) : (writeReg8 r v s).fault = s.fault := by cases r <;> rfl
@[simp] theorem writeReg8_snapshot (r : Reg8) (v : Byte) (s : State) : (writeReg8 r v s).snapshot = s.snapshot := by cases r <;> rfl
@[simp] theorem writeReg8_stepCycles (r : Reg8) (v : Byte) (s : State) : (writeReg8 r v s).stepCycles = s.stepCycles := by cases r <;> rfl
@[simp] theorem writeReg8_cycTotal (r : Reg8) (v : Byte) (s : State) : (writeReg8 r v s).cycTotal = s.cycTotal := by cases r <;> rfl
@[simp] theorem writeReg8_ie (r : Reg8) (v : Byte) (s : State) : (writeReg8 r v s).ie = s.ie := by cases r <;> rfl
@[simp] theorem writeReg8_ifReg (r : Reg8) (v : Byte) (s : State) : (writeReg8 r v s).ifReg = s.ifReg := by cases r <;> rfl
@[simp] theorem writeReg8_rom (r : Reg8) (v : Byte) (s : State) : (writeReg8 r v s).rom = s.rom := by cases r <;> rfl
@[simp] theorem writeReg8_bootRom (r : Reg8) (v : Byte) (s : State) : (writeReg8 r v s).bootRom = s.bootRom := by cases r <;> rfl
@[simp] theorem writeReg8_bootEnabled (r : Reg8) (v : Byte) (s : State) : (writeReg8 r v s).bootEnabled = s.bootEnabled := by cases r <;> rfl
@[simp] theorem writeReg8_vram (r : Reg8) (v : Byte) (s : State) : (writeReg8 r v s).vram = s.vram := by cases r <;> rfl
@[simp] theorem writeReg8_cartRam (r : Reg8) (v : Byte) (s : State) : (writeReg8 r v s).cartRam = s.cartRam := by cases r <;> rfl
@[simp] theorem writeReg8_wram (r : Reg8) (v : Byte) (s : State) : (writeReg8 r v s).wram = s.wram := by cases r <;> rfl
@[simp] theorem writeReg8_oam (r : Reg8) (v : Byte) (s : State) : (writeReg8 r v s).oam = s.oam := by cases r <;> rfl
@[simp] theorem writeReg8_hram (r : Reg8) (v : Byte) (s : State) : (writeReg8 r v s).hram = s.hram := by cases r <;> rfl
@[simp] theorem writeReg8_mapper (r : Reg8) (v : Byte) (s : State) : (writeReg8 r v s).mapper = s.mapper := by cases r <;> rfl
@[simp] theorem writeReg8_joySelect (r : Reg8) (v : Byte) (s : State) : (writeReg8 r v s).joySelect = s.joySelect := by cases r <;> rfl
@[simp] theorem writeReg8_timer (r : Reg8) (v : Byte) (s : State) : (writeReg8 r v s).timer = s.timer := by cases r <;> rfl
@[simp] theorem writeReg8_ppu (r : Reg8) (v : Byte) (s : State) : (writeReg8 r v s).ppu = s.ppu := by cases r <;> rfl
@[simp] theorem writeReg8_dma (r : Reg8) (v : Byte) (s : State) : (writeReg8 r v s).dma = s.dma := by cases r <;> rfl
@[simp] theorem writeReg8_frameValid (r : Reg8) (v : Byte) (s : State) : (writeReg8 r v s).frameValid = s.frameValid := by cases r <;> rfl
@[simp] theorem writeReg8_blankFrame (r : Reg8) (v : Byte) (s : State) : (writeReg8 r v s).blankFrame = s.blankFrame := by cases r <;> rfl
@[simp] theorem writeReg8_joyInputs (r : Reg8) (v : Byte) (s : State) : (writeReg8 r v s).joyInputs = s.joyInputs := by cases r <;> rfl
@[simp] theorem writeReg8_cfg (r : Reg8) (v : Byte) (s : State) : (writeReg8 r v s).cfg = s.cfg := by cases r <;> rfl

@[simp] theorem writeF_regs (v : Byte) (s : State) : (writeF v s).regs = { s.regs with f := v &&& 0xF0 } := rfl
@[simp] theorem writeF_pc (v : Byte) (s : State) : (writeF v s).pc = s.pc := rfl
@[simp] theorem writeF_sp (v : Byte) (s : State) : (writeF v s).sp = s.sp := rfl
@[simp] theorem writeF_ime (v : Byte) (s : State) : (writeF v s).ime = s.ime := rfl
@[simp] theorem writeF_imePending (v : Byte) (s : State) : (writeF v s).imePending = s.imePending := rfl
@[simp] theorem writeF_halted (v : Byte) (s : State) : (writeF v s).halted = s.halted := rfl
@[simp] theorem writeF_fault (v : Byte) (s : State) : (writeF v s).fault = s.fault := rfl
@[simp] theorem writeF_snapshot (v : Byte) (s : State) : (writeF v s).snapshot = s.snapshot := rfl
@[simp] theorem writeF_stepCycles (v : Byte) (s : State) : (writeF v s).stepCycles = s.stepCycles := rfl
@[simp] theorem writeF_cycTotal (v : Byte) (s : State) : (writeF v s).cycTotal = s.cycTotal := rfl
@[simp] theorem writeF_ie (v : Byte) (s : State) : (writeF v s).ie = s.ie := rfl
@[simp] theorem writeF_ifReg (v : Byte) (s : State) : (writeF v s).ifReg = s.ifReg := rfl
@[simp] theorem writeF_rom (v : Byte) (s : State) : (writeF v s).rom = s.rom := rfl
@[simp] theorem writeF_bootRom (v : Byte) (s : State) : (writeF v s).bootRom = s.bootRom := rfl
@[simp] theorem writeF_bootEnabled (v : Byte) (s : State) : (writeF v s).bootEnabled = s.bootEnabled := rfl
@[simp] theorem writeF_vram (v : Byte) (s : State) : (writeF v s).vram = s.vram := rfl
@[simp] theorem writeF_cartRam (v : Byte) (s : State) : (writeF v s).cartRam = s.cartRam := rfl
@[simp] theorem writeF_wram (v : Byte) (s : State) : (writeF v s).wram = s.wram := rfl
@[simp] theorem writeF_oam (v : Byte) (s : State) : (writeF v s).oam = s.oam := rfl
@[simp] theorem writeF_hram (v : Byte) (s : State) : (writeF v s).hram = s.hram := rfl
@[simp] theorem writeF_mapper (v : Byte) (s : State) : (writeF v s).mapper = s.mapper := rfl
@[simp] theorem writeF_joySelect (v : Byte) (s : State) : (writeF v s).joySelect = s.joySelect := rfl
@[simp] theorem writeF_timer (v : Byte) (s : State) : (writeF v s).timer = s.timer := rfl
@[simp] theorem writeF_ppu (v : Byte) (s : State) : (writeF v s).ppu = s.ppu := rfl
@[simp] theorem writeF_dma (v : Byte) (s : State) : (writeF v s).dma = s.dma := rfl
@[simp] theorem writeF_frameValid (v : Byte) (s : State) : (writeF v s).frameValid = s.frameValid := rfl
@[simp] theorem writeF_blankFrame (v : Byte) (s : State) : (writeF v s).blankFrame = s.blankFrame := rfl
@[simp] theorem writeF_joyInputs (v : Byte) (s : State) : (writeF v s).joyInputs = s.joyInputs := rfl
@[simp] theorem writeF_cfg (v : Byte) (s : State) : (writeF v s).cfg = s.cfg := rfl

@[simp] theorem writeReg16_pc (r : Reg16) (v : Word) (s : State) : (writeReg16 r v s).pc = s.pc := by cases r <;> rfl
@[simp] theorem writeReg16_ime (r : Reg16) (v : Word) (s : State) : (writeReg16 r v s).ime = s.ime := by cases r <;> rfl
@[simp] theorem writeReg16_imePending (r : Reg16) (v : Word) (s : State) : (writeReg16 r v s).imePending = s.imePending := by cases r <;> rfl
@[simp] theorem writeReg16_halted (r : Reg16) (v : Word) (s : State) : (writeReg16 r v s).halted = s.halted := by cases r <;> rfl
@[simp] theorem writeReg16_fault (r : Reg16) (v : Word) (s : State) : (writeReg16 r v s).fault = s.fault := by cases r <;> rfl
@[simp] theorem writeReg16_snapshot (r : Reg16) (v : Word) (s : State) : (writeReg16 r v s).snapshot = s.snapshot := by cases r <;> rfl
@[simp] theorem writeReg16_stepCycles (r : Reg16) (v : Word) (s : State) : (writeReg16 r v s).stepCycles = s.stepCycles := by cases r <;> rfl
@[simp] theorem writeReg16_cycTotal (r : Reg16) (v : Word) (s : State) : (writeReg16 r v s).cycTotal = s.cycTotal := by cases r <;> rfl
@[simp] theorem writeReg16_ie (r : Reg16) (v : Word) (s : State) : (writeReg16 r v s).ie = s.ie := by cases r <;> rfl
@[simp] theorem writeReg16_ifReg (r : Reg16) (v : Word) (s : State) : (writeReg16 r v s).ifReg = s.ifReg := by cases r <;> rfl
@[simp] theorem writeReg16_rom (r : Reg16) (v : Word) (s : State) : (writeReg16 r v s).rom = s.rom := by cases r <;> rfl
@[simp] theorem writeReg16_bootRom (r : Reg16) (v : Word) (s : State) : (writeReg16 r v s).bootRom = s.bootRom := by cases r <;> rfl
@[simp] theorem writeReg16_bootEnabled (r : Reg16) (v : Word) (s : State) : (writeReg16 r v s).bootEnabled = s.bootEnabled := by cases r <;> rfl
@[simp] theorem writeReg16_vram (r : Reg16) (v : Word) (s : State) : (writeReg16 r v s).vram = s.vram := by cases r <;> rfl
@[simp] theorem writeReg16_cartRam (r : Reg16) (v : Word) (s : State) : (writeReg16 r v s).cartRam = s.cartRam := by cases r <;> rfl
@[simp] theorem writeReg16_wram (r : Reg16) (v : Word) (s : State) : (writeReg16 r v s).wram = s.wram := by cases r <;> rfl
@[simp] theorem writeReg16_oam (r : Reg16) (v : Word) (s : State) : (writeReg16 r v s).oam = s.oam := by cases r <;> rfl
@[simp] theorem writeReg16_hram (r : Reg16) (v : Word) (s : State) : (writeReg16 r v s).hram = s.hram := by cases r <;> rfl
@[simp] theorem writeReg16_mapper (r : Reg16) (v : Word) (s : State) : (writeReg16 r v s).mapper = s.mapper := by cases r <;> rfl
@[simp] theorem writeReg16_joySelect (r : Reg16) (v : Word) (s : State) : (writeReg16 r v s).joySelect = s.joySelect := by cases r <;> rfl
@[simp] theorem writeReg16_timer (r : Reg16) (v : Word) (s : State) : (writeReg16 r v s).timer = s.timer := by cases r <;> rfl
@[simp] theorem writeReg16_ppu (r : Reg16) (v : Word) (s : State) : (writeReg16 r v s).ppu = s.ppu := by cases r <;> rfl
@[simp] theorem writeReg16_dma (r : Reg16) (v : Word) (s : State) : (writeReg16 r v s).dma = s.dma := by cases r <;> rfl
@[simp] theorem writeReg16_frameValid (r : Reg16) (v : Word) (s : State) : (writeReg16 r v s).frameValid = s.frameValid := by cases r <;> rfl
@[simp] theorem writeReg16_blankFrame (r : Reg16) (v : Word) (s : State) : (writeReg16 r v s).blankFrame = s.blankFrame := by cases r <;> rfl
@[simp] theorem writeReg16_joyInputs (r : Reg16) (v : Word) (s : State) : (writeReg16 r v s).joyInputs = s.joyInputs := by cases r <;> rfl
@[simp] theorem writeReg16_cfg (r : Reg16) (v : Word) (s : State) : (writeReg16 r v s).cfg = s.cfg := by cases r <;> rfl

@[simp] theorem writeStackReg_pc (r : StackReg) (v : Word) (s : State) : (writeStackReg r v s).pc = s.pc := by cases r <;> rfl
@[simp] theorem writeStackReg_sp (r : StackReg) (v : Word) (s : State) : (writeStackReg r v s).sp = s.sp := by cases r <;> rfl
@[simp] theorem writeStackReg_ime (r : StackReg) (v : Word) (s : State) : (writeStackReg r v s).ime = s.ime := by cases r <;> rfl
@[simp] theorem writeStackReg_imePending (r : StackReg) (v : Word) (s : State) : (writeStackReg r v s).imePending = s.imePending := by cases r <;> rfl
@[simp] theorem writeStackReg_halted (r : StackReg) (v : Word) (s : State) : (writeStackReg r v s).halted = s.halted := by cases r <;> rfl
@[simp] theorem writeStackReg_fault (r : StackReg) (v : Word) (s : State) : (writeStackReg r v s).fault = s.fault := by cases r <;> rfl
@[simp] theorem writeStackReg_snapshot (r : StackReg) (v : Word) (s : State) : (writeStackReg r v s).snapshot = s.snapshot := by cases r <;> rfl
@[simp] theorem writeStackReg_stepCycles (r : StackReg) (v : Word) (s : State) : (writeStackReg r v s).stepCycles = s.stepCycles := by cases r <;> rfl
@[simp] theorem writeStackReg_cycTotal (r : StackReg) (v : Word) (s : State) : (writeStackReg r v s).cycTotal = s.cycTotal := by cases r <;> rfl
@[simp] theorem writeStackReg_ie (r : StackReg) (v : Word) (s : State) : (writeStackReg r v s).ie = s.ie := by cases r <;> rfl
@[simp] theorem writeStackReg_ifReg (r : StackReg) (v : Word) (s : State) : (writeStackReg r v s).ifReg = s.ifReg := by cases r <;> rfl
@[simp] theorem writeStackReg_rom (r : StackReg) (v : Word) (s : State) : (writeStackReg r v s).rom = s.rom := by cases r <;> rfl
@[simp] theorem writeStackReg_bootRom (r : StackReg) (v : Word) (s : State) : (writeStackReg r v s).bootRom = s.bootRom := by cases r <;> rfl
@[simp] theorem writeStackReg_bootEnabled (r : StackReg) (v : Word) (s : State) : (writeStackReg r v s).bootEnabled = s.bootEnabled := by cases r <;> rfl
@[simp] theorem writeStackReg_vram (r : StackReg) (v : Word) (s : State) : (writeStackReg r v s).vram = s.vram := by cases r <;> rfl
@[simp] theorem writeStackReg_cartRam (r : StackReg) (v : Word) (s : State) : (writeStackReg r v s).cartRam = s.cartRam := by cases r <;> rfl
@[simp] theorem writeStackReg_wram (r : StackReg) (v : Word) (s : State) : (writeStackReg r v s).wram = s.wram := by cases r <;> rfl
@[simp] theorem writeStackReg_oam (r : StackReg) (v : Word) (s : State) : (writeStackReg r v s).oam = s.oam := by cases r <;> rfl
@[simp] theorem writeStackReg_hram (r : StackReg) (v : Word) (s : State) : (writeStackReg r v s).hram = s.hram := by cases r <;> rfl
@[simp] theorem writeStackReg_mapper (r : StackReg) (v : Word) (s : State) : (writeStackReg r v s).mapper = s.mapper := by cases r <;> rfl
@[simp] theorem writeStackReg_joySelect (r : StackReg) (v : Word) (s : State) : (writeStackReg r v s).joySelect = s.joySelect := by cases r <;> rfl
@[simp] theorem writeStackReg_timer (r : StackReg) (v : Word) (s : State) : (writeStackReg r v s).timer = s.timer := by cases r <;> rfl
@[simp] theorem writeStackReg_ppu (r : StackReg) (v : Word) (s : State) : (writeStackReg r v s).ppu = s.ppu := by cases r <;> rfl
@[simp] theorem writeStackReg_dma (r : StackReg) (v : Word) (s : State) : (writeStackReg r v s).dma = s.dma := by cases r <;> rfl
@[simp] theorem writeStackReg_frameValid (r : StackReg) (v : Word) (s : State) : (writeStackReg r v s).frameValid = s.frameValid := by cases r <;> rfl
@[simp] theorem writeStackReg_blankFrame (r : StackReg) (v : Word) (s : State) : (writeStackReg r v s).blankFrame = s.blankFrame := by cases r <;> rfl
@[simp] theorem writeStackReg_joyInputs (r : StackReg) (v : Word) (s : State) : (writeStackReg r v s).joyInputs = s.joyInputs := by cases r <;> rfl
@[simp] theorem writeStackReg_cfg (r : StackReg) (v : Word) (s : State) : (writeStackReg r v s).cfg = s.cfg := by cases r <;> rfl

@[simp] theorem setFlags_pc (w : FlagWrite) (s : State) : (setFlags w s).pc = s.pc := rfl
@[simp] theorem setFlags_sp (w : FlagWrite) (s : State) : (setFlags w s).sp = s.sp := rfl
@[simp] theorem setFlags_ime (w : FlagWrite) (s : State) : (setFlags w s).ime = s.ime := rfl
@[simp] theorem setFlags_imePending (w : FlagWrite) (s : State) : (setFlags w s).imePending = s.imePending := rfl
@[simp] theorem setFlags_halted (w : FlagWrite) (s : State) : (setFlags w s).halted = s.halted := rfl
@[simp] theorem setFlags_fault (w : FlagWrite) (s : State) : (setFlags w s).fault = s.fault := rfl
@[simp] theorem setFlags_snapshot (w : FlagWrite) (s : State) : (setFlags w s).snapshot = s.snapshot := rfl
@[simp] theorem setFlags_stepCycles (w : FlagWrite) (s : State) : (setFlags w s).stepCycles = s.stepCycles := rfl
@[simp] theorem setFlags_cycTotal (w : FlagWrite) (s : State) : (setFlags w s).cycTotal = s.cycTotal := rfl
@[simp] theorem setFlags_ie (w : FlagWrite) (s : State) : (setFlags w s).ie = s.ie := rfl
@[simp] theorem setFlags_ifReg (w : FlagWrite) (s : State) : (setFlags w s).ifReg = s.ifReg := rfl
@[simp] theorem setFlags_rom (w : FlagWrite) (s : State) : (setFlags w s).rom = s.rom := rfl
@[simp] theorem setFlags_bootRom (w : FlagWrite) (s : State) : (setFlags w s).bootRom = s.bootRom := rfl
@[simp] theorem setFlags_bootEnabled (w : FlagWrite) (s : State) : (setFlags w s).bootEnabled = s.bootEnabled := rfl
@[simp] theorem setFlags_vram (w : FlagWrite) (s : State) : (setFlags w s).vram = s.vram := rfl
@[simp] theorem setFlags_cartRam (w : FlagWrite) (s : State) : (setFlags w s).cartRam = s.cartRam := rfl
@[simp] theorem setFlags_wram (w : FlagWrite) (s : State) : (setFlags w s).wram = s.wram := rfl
@[simp] theorem setFlags_oam (w : FlagWrite) (s : State) : (setFlags w s).oam = s.oam := rfl
@[simp] theorem setFlags_hram (w : FlagWrite) (s : State) : (setFlags w s).hram = s.hram := rfl
@[simp] theorem setFlags_mapper (w : FlagWrite) (s : State) : (setFlags w s).mapper = s.mapper := rfl
@[simp] theorem setFlags_joySelect (w : FlagWrite) (s : State) : (setFlags w s).joySelect = s.joySelect := rfl
@[simp] theorem setFlags_timer (w : FlagWrite) (s : State) : (setFlags w s).timer = s.timer := rfl
@[simp] theorem setFlags_ppu (w : FlagWrite) (s : State) : (setFlags w s).ppu = s.ppu := rfl
@[simp] theorem setFlags_dma (w : FlagWrite) (s : State) : (setFlags w s).dma = s.dma := rfl
@[simp] theorem setFlags_frameValid (w : FlagWrite) (s : State) : (setFlags w s).frameValid = s.frameValid := rfl
@[simp] theorem setFlags_blankFrame (w : FlagWrite) (s : State) : (setFlags w s).blankFrame = s.blankFrame := rfl
@[simp] theorem setFlags_joyInputs (w : FlagWrite) (s : State) : (setFlags w s).joyInputs = s.joyInputs := rfl
@[simp] theorem setFlags_cfg (w : FlagWrite) (s : State) : (setFlags w s).cfg = s.cfg := rfl

@[simp] theorem requestInterrupt_regs (i : IntSource) (s : State) : (requestInterrupt i s).regs = s.regs := rfl
@[simp] theorem requestInterrupt_pc (i : IntSource) (s : State) : (requestInterrupt i s).pc = s.pc := rfl
@[simp] theorem requestInterrupt_sp (i : IntSource) (s : State) : (requestInterrupt i s).sp = s.sp := rfl
@[simp] theorem requestInterrupt_ime (i : IntSource) (s : State) : (requestInterrupt i s).ime = s.ime := rfl
@[simp] theorem requestInterrupt_imePending (i : IntSource) (s : State) : (requestInterrupt i s).imePending = s.imePending := rfl
@[simp] theorem requestInterrupt_halted (i : IntSource) (s : State) : (requestInterrupt i s).halted = s.halted := rfl
@[simp] theorem requestInterrupt_fault (i : IntSource) (s : State) : (requestInterrupt i s).fault = s.fault := rfl
@[simp] theorem requestInterrupt_snapshot (i : IntSource) (s : State) : (requestInterrupt i s).snapshot = s.snapshot := rfl
@[simp] theorem requestInterrupt_stepCycles (i : IntSource) (s : State) : (requestInterrupt i s).stepCycles = s.stepCycles := rfl
@[simp] theorem requestInterrupt_cycTotal (i : IntSource) (s : State) : (requestInterrupt i s).cycTotal = s.cycTotal := rfl
@[simp] theorem requestInterrupt_ie (i : IntSource) (s : State) : (requestInterrupt i s).ie = s.ie := rfl
@[simp] theorem requestInterrupt_ifReg (i : IntSource) (s : State) : (requestInterrupt i s).ifReg = s.ifReg ||| i.mask := rfl
@[simp] theorem requestInterrupt_rom (i : IntSource) (s : State) : (requestInterrupt i s).rom = s.rom := rfl
@[simp] theorem requestInterrupt_bootRom (i : IntSource) (s : State) : (requestInterrupt i s).bootRom = s.bootRom := rfl
@[simp] theorem requestInterrupt_bootEnabled (i : IntSource) (s : State) : (requestInterrupt i s).bootEnabled = s.bootEnabled := rfl
@[simp] theorem requestInterrupt_vram (i : IntSource) (s : State) : (requestInterrupt i s).vram = s.vram := rfl
@[simp] theorem requestInterrupt_cartRam (i : IntSource) (s : State) : (requestInterrupt i s).cartRam = s.cartRam := rfl
@[simp] theorem requestInterrupt_wram (i : IntSource) (s : State) : (requestInterrupt i s).wram = s.wram := rfl
@[simp] theorem requestInterrupt_oam (i : IntSource) (s : State) : (requestInterrupt i s).oam = s.oam := rfl
@[simp] theorem requestInterrupt_hram (i : IntSource) (s : State) : (requestInterrupt i s).hram = s.hram := rfl
@[simp] theorem requestInterrupt_mapper (i : IntSource) (s : State) : (requestInterrupt i s).mapper = s.mapper := rfl
@[simp] theorem requestInterrupt_joySelect (i : IntSource) (s : State) : (requestInterrupt i s).joySelect = s.joySelect := rfl
@[simp] theorem requestInterrupt_timer (i : IntSource) (s : State) : (requestInterrupt i s).timer = s.timer := rfl
@[simp] theorem requestInterrupt_ppu (i : IntSource) (s : State) : (requestInterrupt i s).ppu = s.ppu := rfl
@[simp] theorem requestInterrupt_dma (i : IntSource) (s : State) : (requestInterrupt i s).dma = s.dma := rfl
@[simp] theorem requestInterrupt_frameValid (i : IntSource) (s : State) : (requestInterrupt i s).frameValid = s.frameValid := rfl
@[simp] theorem requestInterrupt_blankFrame (i : IntSource) (s : State) : (requestInterrupt i s).blankFrame = s.blankFrame := rfl
@[simp] theorem requestInterrupt_joyInputs (i : IntSource) (s : State) : (requestInterrupt i s).joyInputs = s.joyInputs := rfl
@[simp] theorem requestInterrupt_cfg (i : IntSource) (s : State) : (requestInterrupt i s).cfg = s.cfg := rfl

@[simp] theorem raiseIllegalOpcode_regs (s : State) : (raiseIllegalOpcode s).regs = s.regs := rfl
@[simp] theorem raiseIllegalOpcode_pc (s : State) : (raiseIllegalOpcode s).pc = s.pc := rfl
@[simp] theorem raiseIllegalOpcode_sp (s : State) : (raiseIllegalOpcode s).sp = s.sp := rfl
@[simp] theorem raiseIllegalOpcode_ime (s : State) : (raiseIllegalOpcode s).ime = s.ime := rfl
@[simp] theorem raiseIllegalOpcode_imePending (s : State) : (raiseIllegalOpcode s).imePending = s.imePending := rfl
@[simp] theorem raiseIllegalOpcode_halted (s : State) : (raiseIllegalOpcode s).halted = s.halted := rfl
@[simp] theorem raiseIllegalOpcode_fault (s : State) : (raiseIllegalOpcode s).fault = true := rfl
@[simp] theorem raiseIllegalOpcode_snapshot (s : State) : (raiseIllegalOpcode s).snapshot = takeSnapshot s := rfl
@[simp] theorem raiseIllegalOpcode_stepCycles (s : State) : (raiseIllegalOpcode s).stepCycles = s.stepCycles := rfl
@[simp] theorem raiseIllegalOpcode_cycTotal (s : State) : (raiseIllegalOpcode s).cycTotal = s.cycTotal := rfl
@[simp] theorem raiseIllegalOpcode_ie (s : State) : (raiseIllegalOpcode s).ie = s.ie := rfl
@[simp] theorem raiseIllegalOpcode_ifReg (s : State) : (raiseIllegalOpcode s).ifReg = s.ifReg := rfl
@[simp] theorem raiseIllegalOpcode_rom (s : State) : (raiseIllegalOpcode s).rom = s.rom := rfl
@[simp] theorem raiseIllegalOpcode_bootRom (s : State) : (raiseIllegalOpcode s).bootRom = s.bootRom := rfl
@[simp] theorem raiseIllegalOpcode_bootEnabled (s : State) : (raiseIllegalOpcode s).bootEnabled = s.bootEnabled := rfl
@[simp] theorem raiseIllegalOpcode_vram (s : State) : (raiseIllegalOpcode s).vram = s.vram := rfl
@[simp] theorem raiseIllegalOpcode_cartRam (s : State) : (raiseIllegalOpcode s).cartRam = s.cartRam := rfl
@[simp] theorem raiseIllegalOpcode_wram (s : State) : (raiseIllegalOpcode s).wram = s.wram := rfl
@[simp] theorem raiseIllegalOpcode_oam (s : State) : (raiseIllegalOpcode s).oam = s.oam := rfl
@[simp] theorem raiseIllegalOpcode_hram (s : State) : (raiseIllegalOpcode s).hram = s.hram := rfl
@[simp] theorem raiseIllegalOpcode_mapper (s : State) : (raiseIllegalOpcode s).mapper = s.mapper := rfl
@[simp] theorem raiseIllegalOpcode_joySelect (s : State) : (raiseIllegalOpcode s).joySelect = s.joySelect := rfl
@[simp] theorem raiseIllegalOpcode_timer (s : State) : (raiseIllegalOpcode s).timer = s.timer := rfl
@[simp] theorem raiseIllegalOpcode_ppu (s : State) : (raiseIllegalOpcode s).ppu = s.ppu := rfl
@[simp] theorem raiseIllegalOpcode_dma (s : State) : (raiseIllegalOpcode s).dma = s.dma := rfl
@[simp] theorem raiseIllegalOpcode_frameValid (s : State) : (raiseIllegalOpcode s).frameValid = s.frameValid := rfl
@[simp] theorem raiseIllegalOpcode_blankFrame (s : State) : (raiseIllegalOpcode s).blankFrame = s.blankFrame := rfl
@[simp] theorem raiseIllegalOpcode_joyInputs (s : State) : (raiseIllegalOpcode s).joyInputs = s.joyInputs := rfl
@[simp] theorem raiseIllegalOpcode_cfg (s : State) : (raiseIllegalOpcode s).cfg = s.cfg := rfl

@[simp] theorem beginStep_regs (s : State) : (beginStep s).regs = s.regs := rfl
@[simp] theorem beginStep_pc (s : State) : (beginStep s).pc = s.pc := rfl
@[simp] theorem beginStep_sp (s : State) : (beginStep s).sp = s.sp := rfl
@[simp] theorem beginStep_ime (s : State) : (beginStep s).ime = s.ime := rfl
@[simp] theorem beginStep_imePending (s : State) : (beginStep s).imePending = s.imePending := rfl
@[simp] theorem beginStep_halted (s : State) : (beginStep s).halted = s.halted := rfl
@[simp] theorem beginStep_fault (s : State) : (beginStep s).fault = s.fault := rfl
@[simp] theorem beginStep_snapshot (s : State) : (beginStep s).snapshot = s.snapshot := rfl
@[simp] theorem beginStep_stepCycles (s : State) : (beginStep s).stepCycles = 0 := rfl
@[simp] theorem beginStep_cycTotal (s : State) : (beginStep s).cycTotal = s.cycTotal := rfl
@[simp] theorem beginStep_ie (s : State) : (beginStep s).ie = s.ie := rfl
@[simp] theorem beginStep_ifReg (s : State) : (beginStep s).ifReg = s.ifReg := rfl
@[simp] theorem beginStep_rom (s : State) : (beginStep s).rom = s.rom := rfl
@[simp] theorem beginStep_bootRom (s : State) : (beginStep s).bootRom = s.bootRom := rfl
@[simp] theorem beginStep_bootEnabled (s : State) : (beginStep s).bootEnabled = s.bootEnabled := rfl
@[simp] theorem beginStep_vram (s : State) : (beginStep s).vram = s.vram := rfl
@[simp] theorem beginStep_cartRam (s : State) : (beginStep s).cartRam = s.cartRam := rfl
@[simp] theorem beginStep_wram (s : State) : (beginStep s).wram = s.wram := rfl
@[simp] theorem beginStep_oam (s : State) : (beginStep s).oam = s.oam := rfl
@[simp] theorem beginStep_hram (s : State) : (beginStep s).hram = s.hram := rfl
@[simp] theorem beginStep_mapper (s : State) : (beginStep s).mapper = s.mapper := rfl
@[simp] theorem beginStep_joySelect (s : State) : (beginStep s).joySelect = s.joySelect := rfl
@[simp] theorem beginStep_timer (s : State) : (beginStep s).timer = s.timer := rfl
@[simp] theorem beginStep_ppu (s : State) : (beginStep s).ppu = s.ppu := rfl
@[simp] theorem beginStep_dma (s : State) : (beginStep s).dma = s.dma := rfl
@[simp] theorem beginStep_frameValid (s : State) : (beginStep s).frameValid = false := rfl
@[simp] theorem beginStep_blankFrame (s : State) : (beginStep s).blankFrame = false := rfl
@[simp] theorem beginStep_joyInputs (s : State) : (beginStep s).joyInputs = s.joyInputs := rfl
@[simp] theorem beginStep_cfg (s : State) : (beginStep s).cfg = s.cfg := rfl

@[simp] theorem accumulateCycles_regs (s : State) : (accumulateCycles s).regs = s.regs := rfl
@[simp] theorem accumulateCycles_pc (s : State) : (accumulateCycles s).pc = s.pc := rfl
@[simp] theorem accumulateCycles_sp (s : State) : (accumulateCycles s).sp = s.sp := rfl
@[simp] theorem accumulateCycles_ime (s : State) : (accumulateCycles s).ime = s.ime := rfl
@[simp] theorem accumulateCycles_imePending (s : State) : (accumulateCycles s).imePending = s.imePending := rfl
@[simp] theorem accumulateCycles_halted (s : State) : (accumulateCycles s).halted = s.halted := rfl
@[simp] theorem accumulateCycles_fault (s : State) : (accumulateCycles s).fault = s.fault := rfl
@[simp] theorem accumulateCycles_snapshot (s : State) : (accumulateCycles s).snapshot = s.snapshot := rfl
@[simp] theorem accumulateCycles_stepCycles (s : State) : (accumulateCycles s).stepCycles = s.stepCycles := rfl
@[simp] theorem accumulateCycles_cycTotal (s : State) : (accumulateCycles s).cycTotal = s.cycTotal + BitVec.ofNat 64 s.stepCycles := rfl
@[simp] theorem accumulateCycles_ie (s : State) : (accumulateCycles s).ie = s.ie := rfl
@[simp] theorem accumulateCycles_ifReg (s : State) : (accumulateCycles s).ifReg = s.ifReg := rfl
@[simp] theorem accumulateCycles_rom (s : State) : (accumulateCycles s).rom = s.rom := rfl
@[simp] theorem accumulateCycles_bootRom (s : State) : (accumulateCycles s).bootRom = s.bootRom := rfl
@[simp] theorem accumulateCycles_bootEnabled (s : State) : (accumulateCycles s).bootEnabled = s.bootEnabled := rfl
@[simp] theorem accumulateCycles_vram (s : State) : (accumulateCycles s).vram = s.vram := rfl
@[simp] theorem accumulateCycles_cartRam (s : State) : (accumulateCycles s).cartRam = s.cartRam := rfl
@[simp] theorem accumulateCycles_wram (s : State) : (accumulateCycles s).wram = s.wram := rfl
@[simp] theorem accumulateCycles_oam (s : State) : (accumulateCycles s).oam = s.oam := rfl
@[simp] theorem accumulateCycles_hram (s : State) : (accumulateCycles s).hram = s.hram := rfl
@[simp] theorem accumulateCycles_mapper (s : State) : (accumulateCycles s).mapper = s.mapper := rfl
@[simp] theorem accumulateCycles_joySelect (s : State) : (accumulateCycles s).joySelect = s.joySelect := rfl
@[simp] theorem accumulateCycles_timer (s : State) : (accumulateCycles s).timer = s.timer := rfl
@[simp] theorem accumulateCycles_ppu (s : State) : (accumulateCycles s).ppu = s.ppu := rfl
@[simp] theorem accumulateCycles_dma (s : State) : (accumulateCycles s).dma = s.dma := rfl
@[simp] theorem accumulateCycles_frameValid (s : State) : (accumulateCycles s).frameValid = s.frameValid := rfl
@[simp] theorem accumulateCycles_blankFrame (s : State) : (accumulateCycles s).blankFrame = s.blankFrame := rfl
@[simp] theorem accumulateCycles_joyInputs (s : State) : (accumulateCycles s).joyInputs = s.joyInputs := rfl
@[simp] theorem accumulateCycles_cfg (s : State) : (accumulateCycles s).cfg = s.cfg := rfl

@[simp] theorem nextInput_regs (s : State) : (nextInput s).regs = s.regs := rfl
@[simp] theorem nextInput_pc (s : State) : (nextInput s).pc = s.pc := rfl
@[simp] theorem nextInput_sp (s : State) : (nextInput s).sp = s.sp := rfl
@[simp] theorem nextInput_ime (s : State) : (nextInput s).ime = s.ime := rfl
@[simp] theorem nextInput_imePending (s : State) : (nextInput s).imePending = s.imePending := rfl
@[simp] theorem nextInput_halted (s : State) : (nextInput s).halted = s.halted := rfl
@[simp] theorem nextInput_fault (s : State) : (nextInput s).fault = s.fault := rfl
@[simp] theorem nextInput_snapshot (s : State) : (nextInput s).snapshot = s.snapshot := rfl
@[simp] theorem nextInput_stepCycles (s : State) : (nextInput s).stepCycles = s.stepCycles := rfl
@[simp] theorem nextInput_cycTotal (s : State) : (nextInput s).cycTotal = s.cycTotal := rfl
@[simp] theorem nextInput_ie (s : State) : (nextInput s).ie = s.ie := rfl
@[simp] theorem nextInput_ifReg (s : State) : (nextInput s).ifReg = s.ifReg := rfl
@[simp] theorem nextInput_rom (s : State) : (nextInput s).rom = s.rom := rfl
@[simp] theorem nextInput_bootRom (s : State) : (nextInput s).bootRom = s.bootRom := rfl
@[simp] theorem nextInput_bootEnabled (s : State) : (nextInput s).bootEnabled = s.bootEnabled := rfl
@[simp] theorem nextInput_vram (s : State) : (nextInput s).vram = s.vram := rfl
@[simp] theorem nextInput_cartRam (s : State) : (nextInput s).cartRam = s.cartRam := rfl
@[simp] theorem nextInput_wram (s : State) : (nextInput s).wram = s.wram := rfl
@[simp] theorem nextInput_oam (s : State) : (nextInput s).oam = s.oam := rfl
@[simp] theorem nextInput_hram (s : State) : (nextInput s).hram = s.hram := rfl
@[simp] theorem nextInput_mapper (s : State) : (nextInput s).mapper = s.mapper := rfl
@[simp] theorem nextInput_joySelect (s : State) : (nextInput s).joySelect = s.joySelect := rfl
@[simp] theorem nextInput_timer (s : State) : (nextInput s).timer = s.timer := rfl
@[simp] theorem nextInput_ppu (s : State) : (nextInput s).ppu = s.ppu := rfl
@[simp] theorem nextInput_dma (s : State) : (nextInput s).dma = s.dma := rfl
@[simp] theorem nextInput_frameValid (s : State) : (nextInput s).frameValid = s.frameValid := rfl
@[simp] theorem nextInput_blankFrame (s : State) : (nextInput s).blankFrame = s.blankFrame := rfl
@[simp] theorem nextInput_joyInputs (s : State) : (nextInput s).joyInputs = s.joyInputs.tail := rfl
@[simp] theorem nextInput_cfg (s : State) : (nextInput s).cfg = s.cfg := rfl

/-- A register reads back what was written to it. -/
@[simp] theorem readReg8_writeReg8_same (r : Reg8) (v : Byte) (s : State) : readReg8 r (writeReg8 r v s) = v := by
  cases r <;> rfl

/-- Writing one register leaves the others. -/
theorem readReg8_writeReg8_other (r q : Reg8) (v : Byte) (s : State) (h : q ≠ r) :
    readReg8 q (writeReg8 r v s) = readReg8 q s := by
  cases r <;> cases q <;> first | rfl | exact absurd rfl h

/-- Writing F leaves every register of `r8`. -/
@[simp] theorem readReg8_writeF (r : Reg8) (v : Byte) (s : State) : readReg8 r (writeF v s) = readReg8 r s := by
  cases r <;> rfl

@[simp] theorem readReg8_setFlags (r : Reg8) (w : FlagWrite) (s : State) : readReg8 r (setFlags w s) = readReg8 r s := by
  cases r <;> rfl

@[simp] theorem readReg8_tick (r : Reg8) (n : Nat) (s : State) : readReg8 r (tick n s) = readReg8 r s := by
  cases r <;> rfl

/-- Writing a register of `r8` leaves F. -/
@[simp] theorem writeReg8_f (r : Reg8) (v : Byte) (s : State) : (writeReg8 r v s).regs.f = s.regs.f := by
  cases r <;> rfl

/-- The two halves of a 16-bit value, joined (spec/20_memory.md R100). -/
@[simp] theorem joinBytes_lo_hi (v : Word) : joinBytes (loByte v) (hiByte v) = v := by
  unfold joinBytes loByte hiByte
  ext i hi
  simp only [BitVec.getElem_append, BitVec.getElem_extractLsb']
  split <;> rename_i h
  · simp [BitVec.getLsbD_eq_getElem hi]
  · rw [show 8 + (i - 8) = i by omega, BitVec.getLsbD_eq_getElem hi]

/-- A pair or SP reads back what was written to it. -/
@[simp] theorem readReg16_writeReg16_same (r : Reg16) (v : Word) (s : State) : readReg16 r (writeReg16 r v s) = v := by
  cases r <;> simp [readReg16, writeReg16]

/-- The flags a `Flags(z, n, h, c)` leaves (spec/00_scope.md R10). -/
theorem setFlags_f (w : FlagWrite) (s : State) :
    (setFlags w s).regs.f =
      packFlags (w.z.getD (flagZ s)) (w.n.getD (flagN s)) (w.h.getD (flagH s)) (w.c.getD (flagC s)) := by
  have h : ∀ z n h c : Bool, packFlags z n h c &&& 0xF0 = packFlags z n h c := by decide
  exact h _ _ _ _

@[simp] theorem flagZ_setFlags (w : FlagWrite) (s : State) : flagZ (setFlags w s) = w.z.getD (flagZ s) := by
  have h : ∀ z n h c : Bool, (packFlags z n h c).getLsbD 7 = z := by decide
  rw [flagZ, setFlags_f, h]

@[simp] theorem flagN_setFlags (w : FlagWrite) (s : State) : flagN (setFlags w s) = w.n.getD (flagN s) := by
  have h : ∀ z n h c : Bool, (packFlags z n h c).getLsbD 6 = n := by decide
  rw [flagN, setFlags_f, h]

@[simp] theorem flagH_setFlags (w : FlagWrite) (s : State) : flagH (setFlags w s) = w.h.getD (flagH s) := by
  have h : ∀ z n h c : Bool, (packFlags z n h c).getLsbD 5 = h := by decide
  rw [flagH, setFlags_f, h]

@[simp] theorem flagC_setFlags (w : FlagWrite) (s : State) : flagC (setFlags w s) = w.c.getD (flagC s) := by
  have h : ∀ z n h c : Bool, (packFlags z n h c).getLsbD 4 = c := by decide
  rw [flagC, setFlags_f, h]

/-- F's low nibble is 0 after any flag update (spec/10_state.md R22). -/
theorem setFlags_low_nibble (w : FlagWrite) (s : State) : (setFlags w s).regs.f &&& 0x0F = 0 := by
  have h : ∀ z n h c : Bool, packFlags z n h c &&& 0x0F = 0 := by decide
  rw [setFlags_f, h]

end Sys2Proof.Machine
end

