-- ==== Sys2Proof/Laws/Bus.lean ====
section
/-! SUPPORT. What a write over the bus leaves alone, that it keeps the memories in form and in range, and that a read depends on the memory side of the state only. -/

namespace Sys2Proof.Machine

@[simp] theorem mapperWriteRom_regs (n : Nat) (v : Byte) (s : State) : (mapperWriteRom n v s).regs = s.regs := by
  unfold mapperWriteRom mbc1Write mbc3Write mbc1UpdateBanks; repeat' (first | rfl | split)
@[simp] theorem mapperWriteRom_pc (n : Nat) (v : Byte) (s : State) : (mapperWriteRom n v s).pc = s.pc := by
  unfold mapperWriteRom mbc1Write mbc3Write mbc1UpdateBanks; repeat' (first | rfl | split)
@[simp] theorem mapperWriteRom_sp (n : Nat) (v : Byte) (s : State) : (mapperWriteRom n v s).sp = s.sp := by
  unfold mapperWriteRom mbc1Write mbc3Write mbc1UpdateBanks; repeat' (first | rfl | split)
@[simp] theorem mapperWriteRom_ime (n : Nat) (v : Byte) (s : State) : (mapperWriteRom n v s).ime = s.ime := by
  unfold mapperWriteRom mbc1Write mbc3Write mbc1UpdateBanks; repeat' (first | rfl | split)
@[simp] theorem mapperWriteRom_imePending (n : Nat) (v : Byte) (s : State) : (mapperWriteRom n v s).imePending = s.imePending := by
  unfold mapperWriteRom mbc1Write mbc3Write mbc1UpdateBanks; repeat' (first | rfl | split)
@[simp] theorem mapperWriteRom_halted (n : Nat) (v : Byte) (s : State) : (mapperWriteRom n v s).halted = s.halted := by
  unfold mapperWriteRom mbc1Write mbc3Write mbc1UpdateBanks; repeat' (first | rfl | split)
@[simp] theorem mapperWriteRom_fault (n : Nat) (v : Byte) (s : State) : (mapperWriteRom n v s).fault = s.fault := by
  unfold mapperWriteRom mbc1Write mbc3Write mbc1UpdateBanks; repeat' (first | rfl | split)
@[simp] theorem mapperWriteRom_snapshot (n : Nat) (v : Byte) (s : State) : (mapperWriteRom n v s).snapshot = s.snapshot := by
  unfold mapperWriteRom mbc1Write mbc3Write mbc1UpdateBanks; repeat' (first | rfl | split)
@[simp] theorem mapperWriteRom_stepCycles (n : Nat) (v : Byte) (s : State) : (mapperWriteRom n v s).stepCycles = s.stepCycles := by
  unfold mapperWriteRom mbc1Write mbc3Write mbc1UpdateBanks; repeat' (first | rfl | split)
@[simp] theorem mapperWriteRom_cycTotal (n : Nat) (v : Byte) (s : State) : (mapperWriteRom n v s).cycTotal = s.cycTotal := by
  unfold mapperWriteRom mbc1Write mbc3Write mbc1UpdateBanks; repeat' (first | rfl | split)
@[simp] theorem mapperWriteRom_bootRom (n : Nat) (v : Byte) (s : State) : (mapperWriteRom n v s).bootRom = s.bootRom := by
  unfold mapperWriteRom mbc1Write mbc3Write mbc1UpdateBanks; repeat' (first | rfl | split)
@[simp] theorem mapperWriteRom_frameValid (n : Nat) (v : Byte) (s : State) : (mapperWriteRom n v s).frameValid = s.frameValid := by
  unfold mapperWriteRom mbc1Write mbc3Write mbc1UpdateBanks; repeat' (first | rfl | split)
@[simp] theorem mapperWriteRom_blankFrame (n : Nat) (v : Byte) (s : State) : (mapperWriteRom n v s).blankFrame = s.blankFrame := by
  unfold mapperWriteRom mbc1Write mbc3Write mbc1UpdateBanks; repeat' (first | rfl | split)
@[simp] theorem mapperWriteRom_joyInputs (n : Nat) (v : Byte) (s : State) : (mapperWriteRom n v s).joyInputs = s.joyInputs := by
  unfold mapperWriteRom mbc1Write mbc3Write mbc1UpdateBanks; repeat' (first | rfl | split)
@[simp] theorem mapperWriteRom_cfg (n : Nat) (v : Byte) (s : State) : (mapperWriteRom n v s).cfg = s.cfg := by
  unfold mapperWriteRom mbc1Write mbc3Write mbc1UpdateBanks; repeat' (first | rfl | split)

@[simp] theorem mapperWriteRam_regs (off : Nat) (v : Byte) (s : State) : (mapperWriteRam off v s).regs = s.regs := by
  unfold mapperWriteRam; split <;> rfl
@[simp] theorem mapperWriteRam_pc (off : Nat) (v : Byte) (s : State) : (mapperWriteRam off v s).pc = s.pc := by
  unfold mapperWriteRam; split <;> rfl
@[simp] theorem mapperWriteRam_sp (off : Nat) (v : Byte) (s : State) : (mapperWriteRam off v s).sp = s.sp := by
  unfold mapperWriteRam; split <;> rfl
@[simp] theorem mapperWriteRam_ime (off : Nat) (v : Byte) (s : State) : (mapperWriteRam off v s).ime = s.ime := by
  unfold mapperWriteRam; split <;> rfl
@[simp] theorem mapperWriteRam_imePending (off : Nat) (v : Byte) (s : State) : (mapperWriteRam off v s).imePending = s.imePending := by
  unfold mapperWriteRam; split <;> rfl
@[simp] theorem mapperWriteRam_halted (off : Nat) (v : Byte) (s : State) : (mapperWriteRam off v s).halted = s.halted := by
  unfold mapperWriteRam; split <;> rfl
@[simp] theorem mapperWriteRam_fault (off : Nat) (v : Byte) (s : State) : (mapperWriteRam off v s).fault = s.fault := by
  unfold mapperWriteRam; split <;> rfl
@[simp] theorem mapperWriteRam_snapshot (off : Nat) (v : Byte) (s : State) : (mapperWriteRam off v s).snapshot = s.snapshot := by
  unfold mapperWriteRam; split <;> rfl
@[simp] theorem mapperWriteRam_stepCycles (off : Nat) (v : Byte) (s : State) : (mapperWriteRam off v s).stepCycles = s.stepCycles := by
  unfold mapperWriteRam; split <;> rfl
@[simp] theorem mapperWriteRam_cycTotal (off : Nat) (v : Byte) (s : State) : (mapperWriteRam off v s).cycTotal = s.cycTotal := by
  unfold mapperWriteRam; split <;> rfl
@[simp] theorem mapperWriteRam_bootRom (off : Nat) (v : Byte) (s : State) : (mapperWriteRam off v s).bootRom = s.bootRom := by
  unfold mapperWriteRam; split <;> rfl
@[simp] theorem mapperWriteRam_frameValid (off : Nat) (v : Byte) (s : State) : (mapperWriteRam off v s).frameValid = s.frameValid := by
  unfold mapperWriteRam; split <;> rfl
@[simp] theorem mapperWriteRam_blankFrame (off : Nat) (v : Byte) (s : State) : (mapperWriteRam off v s).blankFrame = s.blankFrame := by
  unfold mapperWriteRam; split <;> rfl
@[simp] theorem mapperWriteRam_joyInputs (off : Nat) (v : Byte) (s : State) : (mapperWriteRam off v s).joyInputs = s.joyInputs := by
  unfold mapperWriteRam; split <;> rfl
@[simp] theorem mapperWriteRam_cfg (off : Nat) (v : Byte) (s : State) : (mapperWriteRam off v s).cfg = s.cfg := by
  unfold mapperWriteRam; split <;> rfl

@[simp] theorem writeIo_regs (r : IoReg) (v : Byte) (s : State) : (writeIo r v s).regs = s.regs := by
  cases r <;> first | rfl | (simp only [writeIo]; split <;> rfl)
@[simp] theorem writeIo_pc (r : IoReg) (v : Byte) (s : State) : (writeIo r v s).pc = s.pc := by
  cases r <;> first | rfl | (simp only [writeIo]; split <;> rfl)
@[simp] theorem writeIo_sp (r : IoReg) (v : Byte) (s : State) : (writeIo r v s).sp = s.sp := by
  cases r <;> first | rfl | (simp only [writeIo]; split <;> rfl)
@[simp] theorem writeIo_ime (r : IoReg) (v : Byte) (s : State) : (writeIo r v s).ime = s.ime := by
  cases r <;> first | rfl | (simp only [writeIo]; split <;> rfl)
@[simp] theorem writeIo_imePending (r : IoReg) (v : Byte) (s : State) : (writeIo r v s).imePending = s.imePending := by
  cases r <;> first | rfl | (simp only [writeIo]; split <;> rfl)
@[simp] theorem writeIo_halted (r : IoReg) (v : Byte) (s : State) : (writeIo r v s).halted = s.halted := by
  cases r <;> first | rfl | (simp only [writeIo]; split <;> rfl)
@[simp] theorem writeIo_fault (r : IoReg) (v : Byte) (s : State) : (writeIo r v s).fault = s.fault := by
  cases r <;> first | rfl | (simp only [writeIo]; split <;> rfl)
@[simp] theorem writeIo_snapshot (r : IoReg) (v : Byte) (s : State) : (writeIo r v s).snapshot = s.snapshot := by
  cases r <;> first | rfl | (simp only [writeIo]; split <;> rfl)
@[simp] theorem writeIo_stepCycles (r : IoReg) (v : Byte) (s : State) : (writeIo r v s).stepCycles = s.stepCycles := by
  cases r <;> first | rfl | (simp only [writeIo]; split <;> rfl)
@[simp] theorem writeIo_cycTotal (r : IoReg) (v : Byte) (s : State) : (writeIo r v s).cycTotal = s.cycTotal := by
  cases r <;> first | rfl | (simp only [writeIo]; split <;> rfl)
@[simp] theorem writeIo_bootRom (r : IoReg) (v : Byte) (s : State) : (writeIo r v s).bootRom = s.bootRom := by
  cases r <;> first | rfl | (simp only [writeIo]; split <;> rfl)
@[simp] theorem writeIo_frameValid (r : IoReg) (v : Byte) (s : State) : (writeIo r v s).frameValid = s.frameValid := by
  cases r <;> first | rfl | (simp only [writeIo]; split <;> rfl)
@[simp] theorem writeIo_blankFrame (r : IoReg) (v : Byte) (s : State) : (writeIo r v s).blankFrame = s.blankFrame := by
  cases r <;> first | rfl | (simp only [writeIo]; split <;> rfl)
@[simp] theorem writeIo_joyInputs (r : IoReg) (v : Byte) (s : State) : (writeIo r v s).joyInputs = s.joyInputs := by
  cases r <;> first | rfl | (simp only [writeIo]; split <;> rfl)
@[simp] theorem writeIo_cfg (r : IoReg) (v : Byte) (s : State) : (writeIo r v s).cfg = s.cfg := by
  cases r <;> first | rfl | (simp only [writeIo]; split <;> rfl)

@[simp] theorem decodeWrite_regs (k : Bool) (a : Word) (v : Byte) (s : State) : (decodeWrite k a v s).regs = s.regs := by
  unfold decodeWrite; split <;> simp; all_goals (split <;> simp)
@[simp] theorem decodeWrite_pc (k : Bool) (a : Word) (v : Byte) (s : State) : (decodeWrite k a v s).pc = s.pc := by
  unfold decodeWrite; split <;> simp; all_goals (split <;> simp)
@[simp] theorem decodeWrite_sp (k : Bool) (a : Word) (v : Byte) (s : State) : (decodeWrite k a v s).sp = s.sp := by
  unfold decodeWrite; split <;> simp; all_goals (split <;> simp)
@[simp] theorem decodeWrite_ime (k : Bool) (a : Word) (v : Byte) (s : State) : (decodeWrite k a v s).ime = s.ime := by
  unfold decodeWrite; split <;> simp; all_goals (split <;> simp)
@[simp] theorem decodeWrite_imePending (k : Bool) (a : Word) (v : Byte) (s : State) : (decodeWrite k a v s).imePending = s.imePending := by
  unfold decodeWrite; split <;> simp; all_goals (split <;> simp)
@[simp] theorem decodeWrite_halted (k : Bool) (a : Word) (v : Byte) (s : State) : (decodeWrite k a v s).halted = s.halted := by
  unfold decodeWrite; split <;> simp; all_goals (split <;> simp)
@[simp] theorem decodeWrite_fault (k : Bool) (a : Word) (v : Byte) (s : State) : (decodeWrite k a v s).fault = s.fault := by
  unfold decodeWrite; split <;> simp; all_goals (split <;> simp)
@[simp] theorem decodeWrite_snapshot (k : Bool) (a : Word) (v : Byte) (s : State) : (decodeWrite k a v s).snapshot = s.snapshot := by
  unfold decodeWrite; split <;> simp; all_goals (split <;> simp)
@[simp] theorem decodeWrite_stepCycles (k : Bool) (a : Word) (v : Byte) (s : State) : (decodeWrite k a v s).stepCycles = s.stepCycles := by
  unfold decodeWrite; split <;> simp; all_goals (split <;> simp)
@[simp] theorem decodeWrite_cycTotal (k : Bool) (a : Word) (v : Byte) (s : State) : (decodeWrite k a v s).cycTotal = s.cycTotal := by
  unfold decodeWrite; split <;> simp; all_goals (split <;> simp)
@[simp] theorem decodeWrite_bootRom (k : Bool) (a : Word) (v : Byte) (s : State) : (decodeWrite k a v s).bootRom = s.bootRom := by
  unfold decodeWrite; split <;> simp; all_goals (split <;> simp)
@[simp] theorem decodeWrite_frameValid (k : Bool) (a : Word) (v : Byte) (s : State) : (decodeWrite k a v s).frameValid = s.frameValid := by
  unfold decodeWrite; split <;> simp; all_goals (split <;> simp)
@[simp] theorem decodeWrite_blankFrame (k : Bool) (a : Word) (v : Byte) (s : State) : (decodeWrite k a v s).blankFrame = s.blankFrame := by
  unfold decodeWrite; split <;> simp; all_goals (split <;> simp)
@[simp] theorem decodeWrite_joyInputs (k : Bool) (a : Word) (v : Byte) (s : State) : (decodeWrite k a v s).joyInputs = s.joyInputs := by
  unfold decodeWrite; split <;> simp; all_goals (split <;> simp)
@[simp] theorem decodeWrite_cfg (k : Bool) (a : Word) (v : Byte) (s : State) : (decodeWrite k a v s).cfg = s.cfg := by
  unfold decodeWrite; split <;> simp; all_goals (split <;> simp)

@[simp] theorem busWrite_regs (a : Word) (v : Byte) (s : State) : (busWrite a v s).regs = s.regs := by
  unfold busWrite; split <;> simp
@[simp] theorem busWrite_pc (a : Word) (v : Byte) (s : State) : (busWrite a v s).pc = s.pc := by
  unfold busWrite; split <;> simp
@[simp] theorem busWrite_sp (a : Word) (v : Byte) (s : State) : (busWrite a v s).sp = s.sp := by
  unfold busWrite; split <;> simp
@[simp] theorem busWrite_ime (a : Word) (v : Byte) (s : State) : (busWrite a v s).ime = s.ime := by
  unfold busWrite; split <;> simp
@[simp] theorem busWrite_imePending (a : Word) (v : Byte) (s : State) : (busWrite a v s).imePending = s.imePending := by
  unfold busWrite; split <;> simp
@[simp] theorem busWrite_halted (a : Word) (v : Byte) (s : State) : (busWrite a v s).halted = s.halted := by
  unfold busWrite; split <;> simp
@[simp] theorem busWrite_fault (a : Word) (v : Byte) (s : State) : (busWrite a v s).fault = s.fault := by
  unfold busWrite; split <;> simp
@[simp] theorem busWrite_snapshot (a : Word) (v : Byte) (s : State) : (busWrite a v s).snapshot = s.snapshot := by
  unfold busWrite; split <;> simp
@[simp] theorem busWrite_stepCycles (a : Word) (v : Byte) (s : State) : (busWrite a v s).stepCycles = s.stepCycles := by
  unfold busWrite; split <;> simp
@[simp] theorem busWrite_cycTotal (a : Word) (v : Byte) (s : State) : (busWrite a v s).cycTotal = s.cycTotal := by
  unfold busWrite; split <;> simp
@[simp] theorem busWrite_bootRom (a : Word) (v : Byte) (s : State) : (busWrite a v s).bootRom = s.bootRom := by
  unfold busWrite; split <;> simp
@[simp] theorem busWrite_frameValid (a : Word) (v : Byte) (s : State) : (busWrite a v s).frameValid = s.frameValid := by
  unfold busWrite; split <;> simp
@[simp] theorem busWrite_blankFrame (a : Word) (v : Byte) (s : State) : (busWrite a v s).blankFrame = s.blankFrame := by
  unfold busWrite; split <;> simp
@[simp] theorem busWrite_joyInputs (a : Word) (v : Byte) (s : State) : (busWrite a v s).joyInputs = s.joyInputs := by
  unfold busWrite; split <;> simp
@[simp] theorem busWrite_cfg (a : Word) (v : Byte) (s : State) : (busWrite a v s).cfg = s.cfg := by
  unfold busWrite; split <;> simp

@[simp] theorem rawWrite_regs (a : Word) (v : Byte) (s : State) : (rawWrite a v s).regs = s.regs := decodeWrite_regs ..
@[simp] theorem rawWrite_pc (a : Word) (v : Byte) (s : State) : (rawWrite a v s).pc = s.pc := decodeWrite_pc ..
@[simp] theorem rawWrite_sp (a : Word) (v : Byte) (s : State) : (rawWrite a v s).sp = s.sp := decodeWrite_sp ..
@[simp] theorem rawWrite_ime (a : Word) (v : Byte) (s : State) : (rawWrite a v s).ime = s.ime := decodeWrite_ime ..
@[simp] theorem rawWrite_imePending (a : Word) (v : Byte) (s : State) : (rawWrite a v s).imePending = s.imePending := decodeWrite_imePending ..
@[simp] theorem rawWrite_halted (a : Word) (v : Byte) (s : State) : (rawWrite a v s).halted = s.halted := decodeWrite_halted ..
@[simp] theorem rawWrite_fault (a : Word) (v : Byte) (s : State) : (rawWrite a v s).fault = s.fault := decodeWrite_fault ..
@[simp] theorem rawWrite_snapshot (a : Word) (v : Byte) (s : State) : (rawWrite a v s).snapshot = s.snapshot := decodeWrite_snapshot ..
@[simp] theorem rawWrite_stepCycles (a : Word) (v : Byte) (s : State) : (rawWrite a v s).stepCycles = s.stepCycles := decodeWrite_stepCycles ..
@[simp] theorem rawWrite_cycTotal (a : Word) (v : Byte) (s : State) : (rawWrite a v s).cycTotal = s.cycTotal := decodeWrite_cycTotal ..
@[simp] theorem rawWrite_bootRom (a : Word) (v : Byte) (s : State) : (rawWrite a v s).bootRom = s.bootRom := decodeWrite_bootRom ..
@[simp] theorem rawWrite_frameValid (a : Word) (v : Byte) (s : State) : (rawWrite a v s).frameValid = s.frameValid := decodeWrite_frameValid ..
@[simp] theorem rawWrite_blankFrame (a : Word) (v : Byte) (s : State) : (rawWrite a v s).blankFrame = s.blankFrame := decodeWrite_blankFrame ..
@[simp] theorem rawWrite_joyInputs (a : Word) (v : Byte) (s : State) : (rawWrite a v s).joyInputs = s.joyInputs := decodeWrite_joyInputs ..
@[simp] theorem rawWrite_cfg (a : Word) (v : Byte) (s : State) : (rawWrite a v s).cfg = s.cfg := decodeWrite_cfg ..

@[simp] theorem memWrite_regs (a : Word) (v : Byte) (s : State) : (memWrite a v s).regs = s.regs := by simp [memWrite]
@[simp] theorem memWrite_pc (a : Word) (v : Byte) (s : State) : (memWrite a v s).pc = s.pc := by simp [memWrite]
@[simp] theorem memWrite_sp (a : Word) (v : Byte) (s : State) : (memWrite a v s).sp = s.sp := by simp [memWrite]
@[simp] theorem memWrite_ime (a : Word) (v : Byte) (s : State) : (memWrite a v s).ime = s.ime := by simp [memWrite]
@[simp] theorem memWrite_imePending (a : Word) (v : Byte) (s : State) : (memWrite a v s).imePending = s.imePending := by simp [memWrite]
@[simp] theorem memWrite_halted (a : Word) (v : Byte) (s : State) : (memWrite a v s).halted = s.halted := by simp [memWrite]
@[simp] theorem memWrite_fault (a : Word) (v : Byte) (s : State) : (memWrite a v s).fault = s.fault := by simp [memWrite]
@[simp] theorem memWrite_snapshot (a : Word) (v : Byte) (s : State) : (memWrite a v s).snapshot = s.snapshot := by simp [memWrite]
@[simp] theorem memWrite_cycTotal (a : Word) (v : Byte) (s : State) : (memWrite a v s).cycTotal = s.cycTotal := by simp [memWrite]
@[simp] theorem memWrite_bootRom (a : Word) (v : Byte) (s : State) : (memWrite a v s).bootRom = s.bootRom := by simp [memWrite]
@[simp] theorem memWrite_frameValid (a : Word) (v : Byte) (s : State) : (memWrite a v s).frameValid = s.frameValid := by simp [memWrite]
@[simp] theorem memWrite_blankFrame (a : Word) (v : Byte) (s : State) : (memWrite a v s).blankFrame = s.blankFrame := by simp [memWrite]
@[simp] theorem memWrite_joyInputs (a : Word) (v : Byte) (s : State) : (memWrite a v s).joyInputs = s.joyInputs := by simp [memWrite]
@[simp] theorem memWrite_cfg (a : Word) (v : Byte) (s : State) : (memWrite a v s).cfg = s.cfg := by simp [memWrite]
@[simp] theorem memWrite_stepCycles (a : Word) (v : Byte) (s : State) :
    (memWrite a v s).stepCycles = s.stepCycles + 4 := by simp [memWrite]

/-- No bus write changes a ROM byte (spec/20_memory.md R77, R93). -/
@[simp] theorem mapperWriteRom_rom_buf (n : Nat) (v : Byte) (s : State) : (mapperWriteRom n v s).rom.buf = s.rom.buf := by
  unfold mapperWriteRom mbc1Write mbc3Write mbc1UpdateBanks; repeat' (first | rfl | split)

@[simp] theorem decodeWrite_rom_buf (k : Bool) (a : Word) (v : Byte) (s : State) :
    (decodeWrite k a v s).rom.buf = s.rom.buf := by
  unfold decodeWrite
  split
  all_goals first
    | rfl
    | exact mapperWriteRom_rom_buf ..
    | (split <;> rfl)
    | (unfold mapperWriteRam; split <;> rfl)
    | (rename_i r _; cases r <;> first | rfl | (simp only [writeIo]; split <;> rfl))

@[simp] theorem busWrite_rom_buf (a : Word) (v : Byte) (s : State) : (busWrite a v s).rom.buf = s.rom.buf := by
  unfold busWrite; split <;> simp

/-- The storage of the machine is in form, within its size, and its bank indices are in range. -/
def storageOk (s : State) : Prop := memoriesWf s ∧ memoriesWithin s ∧ banksInRange s

/-- The part of a state that `storageOk` is about. -/
theorem storageOk_congr {s t : State} (h : storageOk s) (hrom : t.rom = s.rom) (hboot : t.bootRom = s.bootRom)
    (hvram : t.vram = s.vram) (hram : t.cartRam = s.cartRam) (hwram : t.wram = s.wram) (hoam : t.oam = s.oam)
    (hhram : t.hram = s.hram) (hfb : t.ppu.fb = s.ppu.fb) (hcfg : t.cfg = s.cfg) : storageOk t := by
  simpa only [storageOk, memoriesWf, memoriesWithin, banksInRange, hrom, hboot, hvram, hram, hwram, hoam, hhram, hfb,
    hcfg] using h

/-- The RAM geometry has a bank whenever RAM is declared (R122). -/
theorem cartRam_count_pos {c : CartRamSize} (h : c ≠ .none) : 0 < CartRamSize.bankCount c := by
  cases c <;> simp_all [CartRamSize.bankCount]

/-- Switching the ROM and the RAM bank keeps the storage in order. -/
theorem storageOk_switch {s t : State} (h : storageOk s)
    (hrom : t.rom = s.rom ∨ ∃ n, t.rom = switchBank (romGeom s.cfg) n s.rom)
    (hram : t.cartRam = s.cartRam ∨ (s.cfg.cartRamSize ≠ .none ∧ ∃ n, t.cartRam = switchBank (cartRamGeom s.cfg) n s.cartRam))
    (hboot : t.bootRom = s.bootRom) (hvram : t.vram = s.vram) (hwram : t.wram = s.wram) (hoam : t.oam = s.oam)
    (hhram : t.hram = s.hram) (hfb : t.ppu.fb = s.ppu.fb) (hcfg : t.cfg = s.cfg) : storageOk t := by
  obtain ⟨hwf, hin, hrb, hv, hw, hr⟩ := h
  have hbuf : t.rom.buf = s.rom.buf := by rcases hrom with e | ⟨n, e⟩ <;> simp [e]
  have hcur : t.rom.current < s.cfg.romBankCount := by
    rcases hrom with e | ⟨n, e⟩ <;> rw [e]
    · exact hrb
    · exact Nat.mod_lt _ (by simp only [romGeom]; omega)
  have hrbuf : t.cartRam.buf = s.cartRam.buf := by rcases hram with e | ⟨_, n, e⟩ <;> simp [e]
  have hrcur : s.cfg.cartRamSize ≠ .none → t.cartRam.current < CartRamSize.bankCount s.cfg.cartRamSize := fun hc => by
    rcases hram with e | ⟨_, n, e⟩ <;> rw [e]
    · exact hr hc
    · exact Nat.mod_lt _ (cartRam_count_pos hc)
  refine ⟨?_, ?_, ?_⟩
  · simpa only [memoriesWf, hbuf, hboot, hvram, hrbuf, hwram, hoam, hhram, hfb] using hwf
  · simpa only [memoriesWithin, hbuf, hboot, hvram, hrbuf, hwram, hoam, hhram, hfb, hcfg] using hin
  · simp only [banksInRange, hcfg, hvram, hwram]
    exact ⟨hcur, hv, hw, hrcur⟩

theorem mbc1UpdateBanks_storageOk (r : Mbc1) (s : State) (h : storageOk s) : storageOk (mbc1UpdateBanks r s) := by
  refine storageOk_switch h (.inr ⟨_, rfl⟩) ?_ rfl rfl rfl rfl rfl rfl rfl
  by_cases hc : s.cfg.cartRamSize = .none
  · exact .inl (by simp [mbc1UpdateBanks, hc])
  · exact .inr ⟨hc, _, by simp only [mbc1UpdateBanks, if_neg hc]; rfl⟩

theorem mapperWriteRom_storageOk (n : Nat) (v : Byte) (s : State) (h : storageOk s) :
    storageOk (mapperWriteRom n v s) := by
  unfold mapperWriteRom
  split
  · exact h
  · unfold mbc1Write
    split
    · exact storageOk_congr h rfl rfl rfl rfl rfl rfl rfl rfl rfl
    · split
      · exact mbc1UpdateBanks_storageOk _ s h
      · split <;> exact mbc1UpdateBanks_storageOk _ s h
  · unfold mbc3Write
    split
    · exact storageOk_congr h rfl rfl rfl rfl rfl rfl rfl rfl rfl
    · split
      · exact storageOk_switch h (.inr ⟨_, rfl⟩) (.inl rfl) rfl rfl rfl rfl rfl rfl rfl
      · split
        · refine storageOk_switch h (.inl rfl) ?_ rfl rfl rfl rfl rfl rfl rfl
          by_cases hc : s.cfg.cartRamSize = .none
          · exact .inl (by simp [hc])
          · exact .inr ⟨hc, _, by simp only [if_neg hc]; rfl⟩
        · exact h

theorem mapperWriteRam_storageOk (off : Nat) (v : Byte) (s : State) (h : storageOk s) :
    storageOk (mapperWriteRam off v s) := by
  unfold mapperWriteRam
  split
  · rename_i hopen
    have hc : s.cfg.cartRamSize ≠ .none := by
      simp only [cartRamOpen, Bool.and_eq_true, bne_iff_ne] at hopen; exact hopen.2
    obtain ⟨⟨w1, w2, w3, w4, w5⟩, ⟨ir, ib, i1, i2, i3⟩, b1, b2, b3, b4⟩ := h
    exact ⟨⟨w1, w2, w3, bankWrite_wf _ _ _ _ w4, w5⟩,
      ⟨ir, ib, i1, bankWrite_within (cartRamGeom s.cfg) _ _ _ (b4 hc) i2, i3⟩, b1, b2, b3, fun hc => by simpa using b4 hc⟩
  · exact h

/-- No write to an I/O register touches the storage, nor the framebuffer. -/
theorem writeIo_storageOk (r : IoReg) (v : Byte) (s : State) (h : storageOk s) : storageOk (writeIo r v s) := by
  cases r
  all_goals first
    | exact h
    | exact storageOk_congr h rfl rfl rfl rfl rfl rfl rfl rfl rfl
    | (refine storageOk_congr h ?_ ?_ ?_ ?_ ?_ ?_ ?_ ?_ ?_ <;> (simp only [writeIo, writeLcdc]; repeat' (first | rfl | split)))

/-- The offset a region gives lies within its storage (spec/20_memory.md R70). -/
theorem regionOf_bounds (a : Word) :
    match regionOf a with
    | .rom n => n = a.toNat ∧ n < 0x8000
    | .vram off => a.toNat = 0x8000 + off ∧ off < 0x2000
    | .cartRam off => a.toNat = 0xA000 + off ∧ off < 0x2000
    | .wram off => (a.toNat = 0xC000 + off ∨ a.toNat = 0xE000 + off ∧ off < 0x1E00) ∧ off < 0x2000
    | .oam off => a.toNat = 0xFE00 + off ∧ off < 160
    | .io r => 0xFF00 ≤ a.toNat ∧ a.toNat < 0xFF80 ∧ ioRegAt (a.toNat - 0xFF00) = some r
    | .hram off => a.toNat = 0xFF80 + off ∧ off < 127
    | .ie => a = 0xFFFF
    | .notCovered => 0xFEA0 ≤ a.toNat ∧ a.toNat < 0xFF80 := by
  have ha := a.isLt
  unfold regionOf
  simp only []
  by_cases h1 : a.toNat < 0x8000
  · simp [h1]
  by_cases h2 : a.toNat < 0xA000
  · simp [h1, h2]; omega
  by_cases h3 : a.toNat < 0xC000
  · simp [h1, h2, h3]; omega
  by_cases h4 : a.toNat < 0xE000
  · simp [h1, h2, h3, h4]; omega
  by_cases h5 : a.toNat < 0xFE00
  · simp [h1, h2, h3, h4, h5]; omega
  by_cases h6 : a.toNat < 0xFEA0
  · simp [h1, h2, h3, h4, h5, h6]; omega
  by_cases h7 : a.toNat < 0xFF00
  · simp [h1, h2, h3, h4, h5, h6, h7]; omega
  by_cases h8 : a.toNat < 0xFF80
  · simp only [h1, h2, h3, h4, h5, h6, h7, h8, if_true, if_false]
    cases hio : ioRegAt (a.toNat - 0xFF00) <;> simp <;> omega
  by_cases h9 : a.toNat < 0xFFFF
  · simp [h1, h2, h3, h4, h5, h6, h7, h8, h9]; omega
  · simp [h1, h2, h3, h4, h5, h6, h7, h8, h9]
    apply BitVec.eq_of_toNat_eq; simp; omega

/-- A write anywhere keeps the storage in order, with or without the lockouts. -/
theorem decodeWrite_storageOk (k : Bool) (a : Word) (v : Byte) (s : State) (h : storageOk s) :
    storageOk (decodeWrite k a v s) := by
  have hb := regionOf_bounds a
  have h' := h
  obtain ⟨⟨w1, w2, w3, w4, w5, w6, w7, w8⟩, ⟨ir, ib, i1, i2, i3, i4, i5, i6⟩, b1, b2, b3, b4⟩ := h'
  unfold decodeWrite
  split <;> rename_i hr <;> simp only [hr] at hb
  · exact mapperWriteRom_storageOk _ _ _ h
  · split
    · exact h
    · refine ⟨⟨w1, w2, bankWrite_wf _ _ _ _ w3, w4, w5, w6, w7, w8⟩, ⟨ir, ib, ?_, i2, i3, i4, i5, i6⟩, b1, by simpa using b2, b3, b4⟩
      simpa [vramGeom] using bankWrite_within vramGeom _ v s.vram (by simp [vramGeom, b2]) (by simpa [vramGeom] using i1)
  · exact mapperWriteRam_storageOk _ _ _ h
  · refine ⟨⟨w1, w2, w3, w4, bankWrite_wf _ _ _ _ w5, w6, w7, w8⟩, ⟨ir, ib, i1, i2, ?_, i4, i5, i6⟩, b1, b2, by simpa using b3, b4⟩
    simpa [wramGeom] using bankWrite_within wramGeom _ v s.wram (by simp [wramGeom, b3]) (by simpa [wramGeom] using i3)
  · split
    · exact h
    · exact ⟨⟨w1, w2, w3, w4, w5, Memory.write_wf _ _ _ w6, w7, w8⟩,
        ⟨ir, ib, i1, i2, i3, Memory.write_within _ _ _ _ hb.2 i4, i5, i6⟩, b1, b2, b3, b4⟩
  · exact writeIo_storageOk _ _ _ h
  · exact ⟨⟨w1, w2, w3, w4, w5, w6, Memory.write_wf _ _ _ w7, w8⟩,
        ⟨ir, ib, i1, i2, i3, i4, Memory.write_within _ _ _ _ hb.2 i5, i6⟩, b1, b2, b3, b4⟩
  · exact storageOk_congr h rfl rfl rfl rfl rfl rfl rfl rfl rfl
  · exact h

theorem busWrite_storageOk (a : Word) (v : Byte) (s : State) (h : storageOk s) : storageOk (busWrite a v s) := by
  unfold busWrite
  split
  · exact h
  · exact decodeWrite_storageOk _ _ _ _ h

theorem memWrite_storageOk (a : Word) (v : Byte) (s : State) (h : storageOk s) : storageOk (memWrite a v s) :=
  busWrite_storageOk _ _ _ (storageOk_congr h rfl rfl rfl rfl rfl rfl rfl rfl rfl)

/-- What a CPU read returns does not depend on the registers, PC, SP, the control bits or the cycle count. -/
theorem busRead_cpu (a : Word) (s : State) (regs : Regs) (pc sp : Word) (ime imeP halted : Bool) (n : Nat) :
    busRead a { s with regs := regs, pc := pc, sp := sp, ime := ime, imePending := imeP, halted := halted, stepCycles := n } =
      busRead a s := rfl

@[simp] theorem busRead_tick (a : Word) (n : Nat) (s : State) : busRead a (tick n s) = busRead a s := rfl

@[simp] theorem rawRead_tick (a : Word) (n : Nat) (s : State) : rawRead a (tick n s) = rawRead a s := rfl

@[simp] theorem rawRead_writeReg8 (a : Word) (r : Reg8) (v : Byte) (s : State) :
    rawRead a (writeReg8 r v s) = rawRead a s := by cases r <;> rfl

@[simp] theorem rawRead_writeReg16 (a : Word) (r : Reg16) (v : Word) (s : State) :
    rawRead a (writeReg16 r v s) = rawRead a s := by cases r <;> rfl

@[simp] theorem rawRead_writeStackReg (a : Word) (r : StackReg) (v : Word) (s : State) :
    rawRead a (writeStackReg r v s) = rawRead a s := by cases r <;> rfl

@[simp] theorem rawRead_setFlags (a : Word) (w : FlagWrite) (s : State) : rawRead a (setFlags w s) = rawRead a s := rfl

/-- A CPU read is the raw read wherever neither DMA nor the PPU hides the byte (spec/20_memory.md R72, R95). -/
theorem busRead_eq_rawRead (a : Word) (s : State) (hd : dmaMasks a s = false) (hv : vramLocked s = false)
    (ho : oamLocked s = false) : busRead a s = rawRead a s := by
  simp only [busRead, hd, rawRead, decodeRead, hv, ho, Bool.and_false, Bool.false_eq_true, if_false]

/-- What a CPU write does to the memory side of the state does not depend on the registers, PC, SP, the control bits or
the cycle count, and it leaves them. -/
theorem busWrite_cpu (a : Word) (v : Byte) (s : State) (regs : Regs) (pc sp : Word) (ime imeP halted : Bool) (n : Nat) :
    busWrite a v
        { s with regs := regs, pc := pc, sp := sp, ime := ime, imePending := imeP, halted := halted, stepCycles := n } =
      { busWrite a v s with
        regs := regs, pc := pc, sp := sp, ime := ime, imePending := imeP, halted := halted, stepCycles := n } := by
  have hd : dmaMasks a
      { s with regs := regs, pc := pc, sp := sp, ime := ime, imePending := imeP, halted := halted, stepCycles := n } =
        dmaMasks a s := rfl
  unfold busWrite
  rw [hd]
  split
  · rfl
  · rcases s with
      ⟨x0, x1, x2, x3, x4, x5, x6, x7, x8, x9, x10, x11, x12, x13, x14, x15, x16,
        x17, x18, x19, mapper, x21, x22, x23, x24, x25, x26, x27, x28⟩
    unfold decodeWrite
    split
    · unfold mapperWriteRom
      cases mapper
      · rfl
      · simp only [mbc1Write, mbc1UpdateBanks]; repeat' (first | rfl | split)
      · simp only [mbc3Write]; repeat' (first | rfl | split)
    · cases hv : (x23.mode == PpuMode.pixelPut) <;> simp [vramLocked, hv]
    · have he : cartRamOpen
          ⟨regs, pc, sp, ime, imeP, halted, x6, x7, n, x9, x10, x11, x12, x13, x14, x15, x16, x17,
            x18, x19, mapper, x21, x22, x23, x24, x25, x26, x27, x28⟩ =
          cartRamOpen
            ⟨x0, x1, x2, x3, x4, x5, x6, x7, x8, x9, x10, x11, x12, x13, x14, x15, x16, x17,
              x18, x19, mapper, x21, x22, x23, x24, x25, x26, x27, x28⟩ := rfl
      simp only [mapperWriteRam, he]
      split <;> rfl
    · rfl
    · cases hv : (x23.mode == PpuMode.oamScan || x23.mode == PpuMode.pixelPut) <;> simp [oamLocked, hv]
    · rename_i r _; cases r <;> first | rfl | (simp only [writeIo]; split <;> rfl)
    · rfl
    · rfl
    · rfl


end Sys2Proof.Machine
end

