-- ==== Sys2Proof/Laws/Ops.lean ====
section
/-! SUPPORT. For each shared operation, all it does in one equation or one lemma per part of the state. -/

namespace Sys2Proof.Machine

/-- A CPU read: the byte, 4 cycles, nothing else (spec/20_memory.md R72). -/
theorem memRead_eq (a : Word) (s : State) : memRead a s = (busRead a s, { s with stepCycles := s.stepCycles + 4 }) := rfl

/-- `Fetch8` (spec/00_scope.md R10). -/
theorem fetch8_eq (s : State) :
    fetch8 s = (busRead s.pc s, { s with pc := s.pc + 1, stepCycles := s.stepCycles + 4 }) := rfl

/-- `Fetch16`: low byte first (R10). -/
theorem fetch16_eq (s : State) :
    fetch16 s = (joinBytes (busRead s.pc s) (busRead (s.pc + 1) s),
      { s with pc := s.pc + 1 + 1, stepCycles := s.stepCycles + 4 + 4 }) := rfl

/-- `Pop16`: low byte first (R10). -/
theorem pop16_eq (s : State) :
    pop16 s = (joinBytes (busRead s.sp s) (busRead (s.sp + 1) s),
      { s with sp := s.sp + 1 + 1, stepCycles := s.stepCycles + 4 + 4 }) := rfl

/-- `Push16` as its two writes, high byte first and at the higher address (R10). -/
theorem push16_eq (v : Word) (s : State) :
    push16 v s = push8 (loByte v) (push8 (hiByte v) s) := rfl

@[simp] theorem push8_sp (v : Byte) (s : State) : (push8 v s).sp = s.sp - 1 := by simp [push8]
@[simp] theorem push8_pc (v : Byte) (s : State) : (push8 v s).pc = s.pc := by simp [push8]
@[simp] theorem push8_regs (v : Byte) (s : State) : (push8 v s).regs = s.regs := by simp [push8]
@[simp] theorem push8_imePending (v : Byte) (s : State) : (push8 v s).imePending = s.imePending := by simp [push8]
@[simp] theorem push8_cfg (v : Byte) (s : State) : (push8 v s).cfg = s.cfg := by simp [push8]
@[simp] theorem push8_stepCycles (v : Byte) (s : State) : (push8 v s).stepCycles = s.stepCycles + 4 := by simp [push8]

@[simp] theorem push16_sp (v : Word) (s : State) : (push16 v s).sp = s.sp - 1 - 1 := by simp [push16]
@[simp] theorem push16_pc (v : Word) (s : State) : (push16 v s).pc = s.pc := by simp [push16]
@[simp] theorem push16_regs (v : Word) (s : State) : (push16 v s).regs = s.regs := by simp [push16]
@[simp] theorem push16_imePending (v : Word) (s : State) : (push16 v s).imePending = s.imePending := by simp [push16]
@[simp] theorem push16_cfg (v : Word) (s : State) : (push16 v s).cfg = s.cfg := by simp [push16]
@[simp] theorem push16_stepCycles (v : Word) (s : State) : (push16 v s).stepCycles = s.stepCycles + 4 + 4 := by
  simp [push16]

theorem push8_storageOk (v : Byte) (s : State) (h : storageOk s) : storageOk (push8 v s) :=
  memWrite_storageOk _ _ _ (storageOk_congr h rfl rfl rfl rfl rfl rfl rfl rfl rfl)

theorem push16_storageOk (v : Word) (s : State) (h : storageOk s) : storageOk (push16 v s) :=
  push8_storageOk _ _ (push8_storageOk _ _ h)

/-- Interrupt entry (spec/60_exceptions.md R412), one lemma per part of the state. -/
theorem enterInterrupt_parts (i : IntSource) (s : State) :
    (enterInterrupt i s).pc = i.vector ∧ (enterInterrupt i s).ime = false ∧
      (enterInterrupt i s).sp = s.sp - 1 - 1 ∧ (enterInterrupt i s).regs = s.regs ∧
      (enterInterrupt i s).stepCycles = s.stepCycles + 20 ∧
      (enterInterrupt i s).imePending = (s.imePending && Config.entryKeepsImePending) := by
  simp [enterInterrupt]

theorem enterInterrupt_storageOk (i : IntSource) (s : State) (h : storageOk s) : storageOk (enterInterrupt i s) :=
  storageOk_congr (push16_storageOk s.pc (tick 12 s) (storageOk_congr h rfl rfl rfl rfl rfl rfl rfl rfl rfl))
    rfl rfl rfl rfl rfl rfl rfl rfl rfl

theorem resolveInterrupts_storageOk (s : State) (h : storageOk s) : storageOk (resolveInterrupts s) := by
  unfold resolveInterrupts
  split
  · exact h
  · have h' : storageOk { s with halted := false } := storageOk_congr h rfl rfl rfl rfl rfl rfl rfl rfl rfl
    simp only []
    split
    · exact enterInterrupt_storageOk _ _ h'
    · exact h'

/-- The step before its instruction changes only these fields (spec/60_exceptions.md R400 to R402). -/
theorem beforeInstruction_parts (s : State) :
    (beforeInstruction s).stepCycles = 0 ∧ (beforeInstruction s).pc = s.pc ∧ (beforeInstruction s).sp = s.sp ∧
      (beforeInstruction s).regs = s.regs ∧ (beforeInstruction s).halted = s.halted ∧
      (beforeInstruction s).fault = s.fault ∧ (beforeInstruction s).cfg = s.cfg ∧
      (beforeInstruction s).ime = (s.ime || s.imePending) ∧ (beforeInstruction s).imePending = false := by
  have hj : ∀ t : State, (joypadLatch t).ime = t.ime ∧ (joypadLatch t).imePending = t.imePending ∧
      (joypadLatch t).stepCycles = t.stepCycles ∧ (joypadLatch t).pc = t.pc ∧ (joypadLatch t).sp = t.sp ∧
      (joypadLatch t).regs = t.regs ∧ (joypadLatch t).halted = t.halted ∧ (joypadLatch t).fault = t.fault ∧
      (joypadLatch t).cfg = t.cfg := fun t => by unfold joypadLatch; split <;> simp
  obtain ⟨h1, h2, h3, h4, h5, h6, h7, h8, h9⟩ := hj (beginStep s)
  unfold beforeInstruction resolveImeLatch
  split <;> rename_i hp <;> simp_all

/-- Fetching an instruction reads bytes at PC, advances PC past them and counts 4 cycles each; nothing else changes
(spec/30_encoding.md R162). -/
theorem fetchInstr_state (s : State) :
    (fetchInstr s).2 =
      { s with
        pc := s.pc + BitVec.ofNat 16 (lengthOfOpcode (busRead s.pc s))
        stepCycles := s.stepCycles + 4 * lengthOfOpcode (busRead s.pc s) } := by
  unfold fetchInstr lengthOfOpcode
  simp only [fetch8_eq]
  split <;> rename_i h <;> simp only [h, fetch16_eq]
  · congr 1
  · have : s.pc + 1 + 1 = s.pc + BitVec.ofNat 16 2 := by bv_omega
    rw [this]
  · have : s.pc + 1 + 1 + 1 = s.pc + BitVec.ofNat 16 3 := by bv_omega
    rw [this]
  · have : s.pc + 1 + 1 = s.pc + BitVec.ofNat 16 2 := by bv_omega
    rw [this]

/-- `RenderLine(ly)` keeps the framebuffer canonical, draws the 160 pixels of its line and leaves every other one
(spec/61_ppu.md R460). -/
theorem renderLine_fb (ly : Nat) (s : State) (h : Framebuffer.wf s.ppu.fb) :
    Framebuffer.wf (renderLine ly s).ppu.fb ∧
      ∀ i : Nat, Framebuffer.read (renderLine ly s).ppu.fb i =
        if ly * 160 ≤ i ∧ i < ly * 160 + 160 then linePixel (i - ly * 160) ly s else Framebuffer.read s.ppu.fb i := by
  have hf : ∀ n : Nat,
      let fb := (List.range n).foldl (fun fb x => Framebuffer.write fb (ly * 160 + x) (linePixel x ly s)) s.ppu.fb
      Framebuffer.wf fb ∧ ∀ i : Nat, Framebuffer.read fb i =
        if ly * 160 ≤ i ∧ i < ly * 160 + n then linePixel (i - ly * 160) ly s else Framebuffer.read s.ppu.fb i := by
    intro n
    induction n with
    | zero => exact ⟨h, fun i => by rw [if_neg (by omega)]; rfl⟩
    | succ n ih =>
      rw [List.range_succ, List.foldl_append]
      refine ⟨Framebuffer.write_wf _ _ _ ih.1, fun i => ?_⟩
      by_cases hi : i = ly * 160 + n
      · subst hi
        rw [if_pos (by omega), Nat.add_sub_cancel_left]
        exact Framebuffer.read_write_same _ _ _ ih.1
      · refine (Framebuffer.read_write_other _ _ _ _ hi ih.1).trans ((ih.2 i).trans ?_)
        exact if_congr (by omega) rfl rfl
  have hall := hf 160
  generalize hr : List.range 160 = columns at hall
  unfold renderLine
  rw [hr]
  exact hall

/-- A visible line stays within the framebuffer (spec/61_ppu.md R460, spec/10_state.md R45). -/
theorem renderLine_within (ly : Nat) (s : State) (hly : ly < 144) (h : Framebuffer.within s.ppu.fb = true) :
    Framebuffer.within (renderLine ly s).ppu.fb = true := by
  have hf : ∀ (xs : List Nat) (fb : Framebuffer), (∀ x ∈ xs, x < 160) → Framebuffer.within fb = true →
      Framebuffer.within (xs.foldl (fun fb x => Framebuffer.write fb (ly * 160 + x) (linePixel x ly s)) fb) = true := by
    intro xs
    induction xs with
    | nil => exact fun fb _ h => h
    | cons x xs ih =>
      intro fb hx h
      have := hx x (List.mem_cons_self ..)
      exact ih _ (fun y hy => hx y (List.mem_cons_of_mem _ hy)) (Framebuffer.write_within _ _ _ (by omega) h)
  simpa only [renderLine] using hf (List.range 160) s.ppu.fb (fun x hx => List.mem_range.mp hx) h

theorem renderLine_wf (ly : Nat) (s : State) (h : Framebuffer.wf s.ppu.fb) : Framebuffer.wf (renderLine ly s).ppu.fb :=
  (renderLine_fb ly s h).1

end Sys2Proof.Machine
end

