-- ==== Sys2Proof/Laws/Devices.lean ====
section
/-! SUPPORT. What the PPU, the timer and the DMA engine may change, one lemma each, and what that leaves of the phases after the instruction. -/

namespace Sys2Proof.Machine

/-- Everything the PPU may change (spec/61_ppu.md R441): its own state, IF and the two output pulses. -/
def ppuOnly (s t : State) : Prop :=
  t = { s with ppu := t.ppu, ifReg := t.ifReg, frameValid := t.frameValid, blankFrame := t.blankFrame }

theorem ppuOnly_refl (s : State) : ppuOnly s s := rfl

theorem ppuOnly_trans {s t u : State} (h1 : ppuOnly s t) (h2 : ppuOnly t u) : ppuOnly s u := by
  unfold ppuOnly at *
  rw [h2, h1]

theorem statInterrupt_ppuOnly (k : Nat) (s : State) : ppuOnly s (statInterrupt k s) := by
  unfold statInterrupt; split <;> rfl

theorem lycCheck_ppuOnly (s : State) : ppuOnly s (lycCheck s) := by
  unfold lycCheck
  split
  · exact statInterrupt_ppuOnly 3 s
  · rfl

theorem ppuTransition_ppuOnly (s : State) : ppuOnly s (ppuTransition s) := by
  unfold ppuTransition
  split
  · rfl
  · refine ppuOnly_trans ?_ (statInterrupt_ppuOnly 0 _)
    unfold renderLine
    generalize (List.range 160).foldl _ s.ppu.fb = fb
    rfl
  · unfold leaveHBlank
    refine ppuOnly_trans ?_ (lycCheck_ppuOnly _)
    split
    · refine ppuOnly_trans ?_ (statInterrupt_ppuOnly 2 _)
      rfl
    · refine ppuOnly_trans ?_ (statInterrupt_ppuOnly 1 _)
      rfl
  · unfold leaveVBlankLine
    refine ppuOnly_trans ?_ (lycCheck_ppuOnly _)
    split
    · refine ppuOnly_trans ?_ (statInterrupt_ppuOnly 2 _)
      rfl
    · rfl

theorem ppuLoop_ppuOnly (turns : Nat) : ∀ s : State, ppuOnly s (ppuLoop turns s) := by
  induction turns with
  | zero => exact fun s => rfl
  | succ k ih =>
    intro s
    unfold ppuLoop
    simp only []
    split
    · rfl
    · refine ppuOnly_trans (ppuOnly_trans ?_ (ppuTransition_ppuOnly _)) (ih _)
      rfl

/-- The frame of `PpuAdvance` (R441). -/
theorem ppuAdvance_ppuOnly (n : Nat) (s : State) : ppuOnly s (ppuAdvance n s) := by
  unfold ppuAdvance
  split
  · refine ppuOnly_trans ?_ (ppuLoop_ppuOnly _ _)
    rfl
  · unfold ppuOffTick
    simp only []
    split <;> rfl

/-- Everything the timer may change (spec/62_timer_dma_joypad.md R500, R502): DIV, TIMA and IF. -/
def timerOnly (s t : State) : Prop :=
  t = { s with timer := { s.timer with div := t.timer.div, tima := t.timer.tima }, ifReg := t.ifReg }

theorem timerOnly_trans {s t u : State} (h1 : timerOnly s t) (h2 : timerOnly t u) : timerOnly s u := by
  unfold timerOnly at *
  rw [h2, h1]

theorem timaCounts_timerOnly (k : Nat) : ∀ s : State, timerOnly s (timaCounts k s) := by
  induction k with
  | zero => exact fun s => rfl
  | succ k ih =>
    intro s
    refine timerOnly_trans ?_ (ih _)
    unfold timaCount
    split <;> rfl

/-- The DMA engine's step (R511): one byte of OAM and the index, while the index is in the block. -/
theorem dmaCopy_eq (s : State) (h : s.dma.index < 160) :
    dmaCopy s =
      { s with
        oam := Memory.write s.oam s.dma.index (rawRead (dmaSource s) s)
        dma := { s.dma with index := s.dma.index + 1 } } := by
  have hr : regionOf (0xFE00#16 + BitVec.ofNat 16 s.dma.index) = .oam s.dma.index := by
    have hn : (0xFE00#16 + BitVec.ofNat 16 s.dma.index).toNat = 0xFE00 + s.dma.index := by
      rw [BitVec.toNat_add, BitVec.toNat_ofNat, BitVec.toNat_ofNat]; omega
    have h1 : ¬0xFE00 + s.dma.index < 0x8000 := by omega
    have h2 : ¬0xFE00 + s.dma.index < 0xA000 := by omega
    have h3 : ¬0xFE00 + s.dma.index < 0xC000 := by omega
    have h4 : ¬0xFE00 + s.dma.index < 0xE000 := by omega
    have h5 : ¬0xFE00 + s.dma.index < 0xFE00 := by omega
    have h6 : 0xFE00 + s.dma.index < 0xFEA0 := by omega
    have h7 : 0xFE00 + s.dma.index - 0xFE00 = s.dma.index := by omega
    unfold regionOf
    simp only [hn, h1, h2, h3, h4, h5, h6, h7, if_true, if_false]
  unfold dmaCopy rawWrite decodeWrite
  rw [hr]
  simp

/-- The memories stay canonical while the DMA engine copies. -/
theorem dmaCopy_memoriesWf (s : State) (h : s.dma.index < 160) (hw : memoriesWf s) : memoriesWf (dmaCopy s) := by
  rw [dmaCopy_eq s h]
  obtain ⟨w1, w2, w3, w4, w5, w6, w7, w8⟩ := hw
  exact ⟨w1, w2, w3, w4, w5, Memory.write_wf _ _ _ w6, w7, w8⟩

/-- Everything the DMA engine may change (R511): OAM and its own state. -/
def dmaOnly (s t : State) : Prop := t = { s with oam := t.oam, dma := { s.dma with active := t.dma.active, index := t.dma.index } }

theorem dmaOnly_trans {s t u : State} (h1 : dmaOnly s t) (h2 : dmaOnly t u) : dmaOnly s u := by
  unfold dmaOnly at *
  rw [h2, h1]

theorem dmaCopies_dmaOnly (k : Nat) :
    ∀ s : State, s.dma.index + k ≤ 160 → dmaOnly s (dmaCopies k s) ∧ (dmaCopies k s).dma.index = s.dma.index + k := by
  induction k with
  | zero => exact fun s _ => ⟨rfl, rfl⟩
  | succ k ih =>
    intro s h
    have e := dmaCopy_eq s (by omega)
    have h1 : dmaOnly s (dmaCopy s) := by rw [e]; rfl
    have hi : (dmaCopy s).dma.index = s.dma.index + 1 := by rw [e]
    obtain ⟨a, b⟩ := ih (dmaCopy s) (by omega)
    exact ⟨dmaOnly_trans h1 a, by unfold dmaCopies; omega⟩

/-- Copying neither starts nor ends a transfer (R511): `DmaAdvance` ends it. -/
theorem dmaCopies_active (k : Nat) : ∀ s : State, s.dma.index + k ≤ 160 → (dmaCopies k s).dma.active = s.dma.active := by
  induction k with
  | zero => exact fun _ _ => rfl
  | succ k ih =>
    intro s h
    have e := dmaCopy_eq s (by omega)
    unfold dmaCopies
    rw [ih _ (by rw [e]; show s.dma.index + 1 + k ≤ 160; omega), e]

/-- The frame of `DmaAdvance` while the index is in its range. -/
theorem dmaAdvance_dmaOnly (n : Nat) (s : State) (h : s.dma.index ≤ 160) : dmaOnly s (dmaAdvance n s) := by
  unfold dmaAdvance
  split
  · have hc := (dmaCopies_dmaOnly (min (n / 4) (160 - s.dma.index)) s (by omega)).1
    simp only []
    split
    · exact dmaOnly_trans hc rfl
    · exact hc
  · rfl

end Sys2Proof.Machine
end

