-- ==== Sys2Proof/Laws/Frame.lean ====
section
/-! SUPPORT. What a bus write leaves readable as before, and the stack operations as bus writes: the facts the frames rest on. -/

set_option maxRecDepth 4000

namespace Sys2Proof.Machine

theorem bankRead_bankWrite_other (g : BankGeom) (o o' : Nat) (v : Byte) (b : Bank) (hb : Memory.wf b.buf)
    (hne : o' ≠ o) :
    bankRead g o' (bankWrite g o v b) = bankRead g o' b := by
  unfold bankWrite bankRead
  by_cases h1 : g.readOnly = true
  · simp [h1]
  by_cases h2 : o < g.size
  · simp only [h1, h2, if_true, if_false, Bool.false_eq_true]
    rw [Memory.read_write_other _ _ _ _ (by omega) hb]
  · simp [h1, h2]

/-- The fixed ROM bank depends on the image alone. -/
theorem mapperReadRom_low_congr (n : Nat) (s t : State) (h : n < 0x4000) (hr : t.rom.buf = s.rom.buf)
    (hm : t.mapper = .noMapper ↔ s.mapper = .noMapper) (hc : t.cfg = s.cfg) :
    mapperReadRom n t = mapperReadRom n s := by
  unfold mapperReadRom
  cases h1 : t.mapper <;> cases h2 : s.mapper <;> simp_all [bankReadAt]

theorem mapperWriteRom_kind (n : Nat) (v : Byte) (s : State) :
    (mapperWriteRom n v s).mapper = .noMapper ↔ s.mapper = .noMapper := by
  unfold mapperWriteRom
  split
  · rfl
  · rename_i hm; unfold mbc1Write mbc1UpdateBanks; repeat' split
    all_goals simp [hm]
  · rename_i hm; unfold mbc3Write; repeat' split
    all_goals simp [hm]

/-- What a mapper command leaves (spec/21_cartridge_mapper.md R120). -/
theorem mapperWriteRom_rest (n : Nat) (v : Byte) (s : State) :
    (mapperWriteRom n v s).vram = s.vram ∧ (mapperWriteRom n v s).wram = s.wram ∧ (mapperWriteRom n v s).oam = s.oam ∧
      (mapperWriteRom n v s).hram = s.hram ∧ (mapperWriteRom n v s).ie = s.ie ∧
      (mapperWriteRom n v s).bootEnabled = s.bootEnabled ∧ ∀ r, readIo r (mapperWriteRom n v s) = readIo r s := by
  unfold mapperWriteRom
  split
  · exact ⟨rfl, rfl, rfl, rfl, rfl, rfl, fun _ => rfl⟩
  · unfold mbc1Write mbc1UpdateBanks; repeat' split
    all_goals exact ⟨rfl, rfl, rfl, rfl, rfl, rfl, fun r => by cases r <;> rfl⟩
  · unfold mbc3Write; repeat' split
    all_goals exact ⟨rfl, rfl, rfl, rfl, rfl, rfl, fun r => by cases r <;> rfl⟩

/-- The offset of an I/O register from 0xFF00 (spec/10_state.md R33). -/
def ioOffset : IoReg → Nat
  | .p1 => 0x00
  | .div => 0x04
  | .tima => 0x05
  | .tma => 0x06
  | .tac => 0x07
  | .ifr => 0x0F
  | .lcdc => 0x40
  | .stat => 0x41
  | .scy => 0x42
  | .scx => 0x43
  | .ly => 0x44
  | .lyc => 0x45
  | .dma => 0x46
  | .bgp => 0x47
  | .obp0 => 0x48
  | .obp1 => 0x49
  | .wy => 0x4A
  | .wx => 0x4B
  | .boot => 0x50

theorem ioRegAt_val (n : Nat) (r : IoReg) (h : ioRegAt n = some r) : n = ioOffset r := by
  unfold ioRegAt at h
  split at h <;> simp at h <;> subst h <;> rfl

theorem regionOf_io (a : Word) (r : IoReg) (h : regionOf a = .io r) :
    0xFF00 ≤ a.toNat ∧ ioRegAt (a.toNat - 0xFF00) = some r := by
  have := regionOf_bounds a; rw [h] at this; exact ⟨this.1, this.2.2⟩

theorem regionOf_io_addr (x : Word) (r : IoReg) (h : regionOf x = .io r) : x = BitVec.ofNat 16 (0xFF00 + ioOffset r) := by
  obtain ⟨h1, h2⟩ := regionOf_io x r h
  have := ioRegAt_val _ _ h2
  apply BitVec.eq_of_toNat_eq
  rw [← this]; simp; omega

/-- The raw read by region. -/
def regionByte (r : Region) (s : State) : Byte :=
  match r with
  | .rom n => readRomArea n s
  | .vram off => bankRead vramGeom off s.vram
  | .cartRam off => mapperReadRam off s
  | .wram off => bankRead wramGeom off s.wram
  | .oam off => Memory.read s.oam off
  | .io r => readIo r s
  | .hram off => Memory.read s.hram off
  | .ie => s.ie.zeroExtend 8
  | .notCovered => undefinedRead

theorem rawRead_eq_regionByte (x : Word) (s : State) : rawRead x s = regionByte (regionOf x) s := by
  unfold rawRead decodeRead regionByte; cases regionOf x <;> rfl

theorem writeIo_other (r q : IoReg) (v : Byte) (s : State)
    (h : writeTouches (BitVec.ofNat 16 (0xFF00 + ioOffset r)) (BitVec.ofNat 16 (0xFF00 + ioOffset q)) = false) :
    readIo q (writeIo r v s) = readIo q s := by
  revert h
  cases r <;> cases q <;> intro h <;>
    first
      | rfl
      | exact absurd h (by decide)
      | (simp only [writeIo, writeLcdc, ppuRestart]; repeat' (first | rfl | split))

/-- The frame of a CPU write: a byte outside what the write may touch reads as before. -/
theorem rawRead_busWrite_other (a x : Word) (v : Byte) (s : State) (hw : memoriesWf s) (ht : writeTouches a x = false) :
    rawRead x (busWrite a v s) = rawRead x s := by
  obtain ⟨w1, w2, w3, w4, w5, w6, w7, w8⟩ := hw
  unfold busWrite
  split
  · rfl
  have hx := regionOf_bounds x
  have ha := regionOf_bounds a
  rw [rawRead_eq_regionByte, rawRead_eq_regionByte]
  unfold decodeWrite
  have ht' := ht
  unfold writeTouches at ht
  generalize hrx : regionOf x = X at *
  rcases hra : regionOf a with n | o | o | o | o | r | o | _ | _ <;> simp only [hra] at ht ha ⊢
  · obtain ⟨e1, e2, e3, e4, e5, e6, e7⟩ := mapperWriteRom_rest n v s
    cases X <;> simp only [regionByte, e1, e2, e3, e4, e5, e7] at *
    · simp at ht
      unfold readRomArea
      rw [e6]
      simp only [mapperWriteRom_bootRom]
      split
      · rfl
      · refine mapperReadRom_low_congr _ _ _ ?_ (by simp) (mapperWriteRom_kind ..) (by simp); omega
    · simp at ht; omega
  · split
    · rfl
    · rcases X with n' | o' | o' | o' | o' | q | o' | _ | _ <;> simp only [regionByte] at *
      · rfl
      · exact bankRead_bankWrite_other _ _ _ _ _ w3 (by rintro rfl; simp at ht)
      · rfl
      · cases q <;> rfl
  · unfold mapperWriteRam
    split
    · rcases X with n' | o' | o' | o' | o' | q | o' | _ | _ <;> simp only [regionByte] at *
      · rfl
      · unfold mapperReadRam
        have : cartRamOpen { s with cartRam := bankWrite (cartRamGeom s.cfg) o v s.cartRam } = cartRamOpen s := rfl
        rename_i hop
        rw [this, if_pos hop, if_pos hop]
        exact bankRead_bankWrite_other _ _ _ _ _ w4 (by rintro rfl; simp at ht)
      · cases q <;> rfl
    · rfl
  · rcases X with n' | o' | o' | o' | o' | q | o' | _ | _ <;> simp only [regionByte] at *
    · rfl
    · rfl
    · exact bankRead_bankWrite_other _ _ _ _ _ w5 (by rintro rfl; simp at ht)
    · cases q <;> rfl
  · split
    · rfl
    · rcases X with n' | o' | o' | o' | o' | q | o' | _ | _ <;> simp only [regionByte] at *
      · rfl
      · rfl
      · exact Memory.read_write_other _ _ _ _ (by rintro rfl; simp at ht) w6
      · cases q <;> rfl
  · rcases X with n' | o' | o' | o' | o' | q | o' | _ | _ <;> simp only [regionByte]
    case io =>
      apply writeIo_other
      rw [← regionOf_io_addr _ _ hrx, ← regionOf_io_addr _ _ hra]; exact ht'
    case rom =>
      unfold readRomArea
      cases r <;> first | rfl | (simp only [writeIo]; repeat' (first | rfl | split))
      all_goals (simp at *)
      all_goals omega
    all_goals (cases r <;> first | rfl | (simp only [writeIo]; repeat' (first | rfl | split)))
  · rcases X with n' | o' | o' | o' | o' | q | o' | _ | _ <;> simp only [regionByte] at *
    · rfl
    · rfl
    · cases q <;> rfl
    · exact Memory.read_write_other _ _ _ _ (by rintro rfl; simp at ht) w7
  · rcases X with n' | o' | o' | o' | o' | q | o' | _ | _ <;> simp only [regionByte] at *
    · rfl
    · rfl
    · cases q <;> rfl
    · simp at ht

theorem memoriesWf_congr {s t : State} (h : memoriesWf s) (hrom : t.rom.buf = s.rom.buf) (hboot : t.bootRom = s.bootRom)
    (hvram : t.vram = s.vram) (hram : t.cartRam.buf = s.cartRam.buf) (hwram : t.wram = s.wram) (hoam : t.oam = s.oam)
    (hhram : t.hram = s.hram) (hfb : t.ppu.fb = s.ppu.fb) : memoriesWf t := by
  simpa only [memoriesWf, hrom, hboot, hvram, hram, hwram, hoam, hhram, hfb] using h

theorem mapperWriteRom_memoriesWf (n : Nat) (v : Byte) (s : State) (h : memoriesWf s) : memoriesWf (mapperWriteRom n v s) := by
  unfold mapperWriteRom mbc1Write mbc3Write mbc1UpdateBanks
  repeat' (first | exact memoriesWf_congr h rfl rfl rfl rfl rfl rfl rfl rfl | (refine memoriesWf_congr h rfl rfl rfl ?_ rfl rfl rfl rfl; simp only []; split <;> rfl) | split)

/-- A CPU write keeps every memory in canonical form. -/
theorem busWrite_memoriesWf (a : Word) (v : Byte) (s : State) (h : memoriesWf s) : memoriesWf (busWrite a v s) := by
  have h' := h
  obtain ⟨w1, w2, w3, w4, w5, w6, w7, w8⟩ := h'
  unfold busWrite
  split
  · exact h
  unfold decodeWrite
  split
  · exact mapperWriteRom_memoriesWf _ _ _ h
  · split
    · exact h
    · exact ⟨w1, w2, bankWrite_wf _ _ _ _ w3, w4, w5, w6, w7, w8⟩
  · unfold mapperWriteRam
    split
    · exact ⟨w1, w2, w3, bankWrite_wf _ _ _ _ w4, w5, w6, w7, w8⟩
    · exact h
  · exact ⟨w1, w2, w3, w4, bankWrite_wf _ _ _ _ w5, w6, w7, w8⟩
  · split
    · exact h
    · exact ⟨w1, w2, w3, w4, w5, Memory.write_wf _ _ _ w6, w7, w8⟩
  · rename_i r _
    cases r <;> first | exact h | (simp only [writeIo]; first | (split <;> exact h) | skip)
    all_goals (unfold writeLcdc ppuRestart; simp only []; repeat' (first | exact h | split))
  · exact ⟨w1, w2, w3, w4, w5, w6, Memory.write_wf _ _ _ w7, w8⟩
  · exact h
  · exact h

theorem memWrite_eq (a : Word) (v : Byte) (s : State) :
    memWrite a v s = { busWrite a v s with stepCycles := s.stepCycles + 4 } := by
  unfold memWrite tick
  exact busWrite_cpu a v s s.regs s.pc s.sp s.ime s.imePending s.halted (s.stepCycles + 4) |>.trans (by simp)

theorem storesByte_of_busWrite (a : Word) (v : Byte) (s : State) (r : Regs) (n : Nat) :
    storesByte a v s { busWrite a v s with regs := r, stepCycles := n } :=
  ⟨rfl, fun hw x hx => by
    have := rawRead_busWrite_other a x v s hw (hx a (by simp))
    exact this⟩

theorem storesTwo_of_busWrite (a1 a2 : Word) (v1 v2 : Byte) (s : State) (r : Regs) (pc sp : Word) (n : Nat) :
  storesTwo a1 v1 a2 v2 s { busWrite a2 v2 (busWrite a1 v1 s) with regs := r, pc := pc, sp := sp, stepCycles := n } :=
  ⟨rfl, fun hw x hx => by
    have h1 := rawRead_busWrite_other a1 x v1 s hw (hx a1 (by simp))
    have h2 := rawRead_busWrite_other a2 x v2 (busWrite a1 v1 s) (busWrite_memoriesWf _ _ _ hw) (hx a2 (by simp))
    exact h2.trans h1⟩

theorem busWrite_spCycles (a : Word) (v : Byte) (s : State) (sp : Word) (n : Nat) :
   busWrite a v { s with sp := sp, stepCycles := n } = { busWrite a v s with sp := sp, stepCycles := n } := by
  refine (busWrite_cpu a v s s.regs s.pc sp s.ime s.imePending s.halted n).trans ?_
  simp

/-- `Push16` as two CPU writes (spec/00_scope.md R10). -/
theorem push16_writes (v : Word) (s : State) :
    push16 v s =
      { busWrite (s.sp - 2) (v.extractLsb' 0 8) (busWrite (s.sp - 1) (v.extractLsb' 8 8) s) with
        sp := s.sp - 2
        stepCycles := s.stepCycles + 8 } := by
  have e : s.sp - 1 - 1 = s.sp - 2 := by bv_omega
  unfold push16 push8
  simp only [memWrite_eq, loByte, hiByte]
  rw [busWrite_spCycles _ _ s (s.sp-1) s.stepCycles]
  simp only [e]
  rw [busWrite_spCycles]

theorem busWrite_tick (n : Nat) (a : Word) (v : Byte) (s : State) : busWrite a v (tick n s) = tick n (busWrite a v s) := by
  have h1 := busWrite_spCycles a v s s.sp (s.stepCycles + n)
  refine h1.trans ?_
  have h2 := busWrite_sp a v s
  have h3 := busWrite_stepCycles a v s
  unfold tick
  rw [h3]
  conv => lhs; rw [← h2]

theorem push16_tick (k : Nat) (w : Word) (s : State) : push16 w (tick k s) = tick k (push16 w s) := by
  rw [push16_writes, push16_writes, busWrite_tick, busWrite_tick]
  simp [tick]; omega

end Sys2Proof.Machine
end

