-- ==== Sys2Proof/Tests/Slice0.lean ====
section
/-! SUPPORT. The author's tests: well-formedness, decoding of every byte of both tables, one step's results from the vectors of spec/95_test_vectors.md, and a witness for the hypotheses of each statement. -/

namespace Sys2Proof.Tests

open Sys2Proof.Machine

/-! ## Well-formedness (R167, R172) -/

/-- A byte the table defines is no undefined opcode: the one check, refused at the neighbours of the eleven bytes. -/
theorem test_illegal_with_defined_byte_refused :
    ([0x00, 0xCB, 0xD2, 0xD4, 0xDC, 0xDE, 0xE2, 0xE5, 0xEE, 0xF3, 0xF5, 0xFB, 0xFE, 0xFF] : List Byte).any
      (fun op => (Instr.illegal op).wellFormed) = false := by decide

theorem test_undefined_bytes_accepted : undefinedOpcodes.all (fun op => (Instr.illegal op).wellFormed) = true := by decide

/-! ## Decoding: the bytes from spec/30_encoding.md section 3 and its two tables; operand bytes 0x34, 0x12 -/

/-- The bytes decode to the instruction, nothing left over. -/
def reads (p : List Byte × Instr) : Bool := decide (decode p.1 = .instr p.2 [])

theorem test_decode_base_00_to_1F :
    ([
      ([0x00], .nop), ([0x01, 0x34, 0x12], .ld_BC_d16 0x1234), ([0x02], .ld_atBC_A), ([0x03], .inc_BC),
      ([0x04], .inc_B), ([0x05], .dec_B), ([0x06, 0x34], .ld_B_d8 0x34), ([0x07], .rlca),
      ([0x08, 0x34, 0x12], .ld_atA16_SP 0x1234), ([0x09], .add_HL_BC), ([0x0A], .ld_A_atBC), ([0x0B], .dec_BC),
      ([0x0C], .inc_C), ([0x0D], .dec_C), ([0x0E, 0x34], .ld_C_d8 0x34), ([0x0F], .rrca), ([0x10], .stop),
      ([0x11, 0x34, 0x12], .ld_DE_d16 0x1234), ([0x12], .ld_atDE_A), ([0x13], .inc_DE), ([0x14], .inc_D),
      ([0x15], .dec_D), ([0x16, 0x34], .ld_D_d8 0x34), ([0x17], .rla), ([0x18, 0x34], .jr_e8 0x34),
      ([0x19], .add_HL_DE), ([0x1A], .ld_A_atDE), ([0x1B], .dec_DE), ([0x1C], .inc_E), ([0x1D], .dec_E),
      ([0x1E, 0x34], .ld_E_d8 0x34), ([0x1F], .rra)] :
      List (List Byte × Instr)).all reads = true := by decide

theorem test_decode_base_20_to_3F :
    ([
      ([0x20, 0x34], .jr_NZ_e8 0x34), ([0x21, 0x34, 0x12], .ld_HL_d16 0x1234), ([0x22], .ld_atHLinc_A),
      ([0x23], .inc_HL), ([0x24], .inc_H), ([0x25], .dec_H), ([0x26, 0x34], .ld_H_d8 0x34), ([0x27], .daa),
      ([0x28, 0x34], .jr_Z_e8 0x34), ([0x29], .add_HL_HL), ([0x2A], .ld_A_atHLinc), ([0x2B], .dec_HL),
      ([0x2C], .inc_L), ([0x2D], .dec_L), ([0x2E, 0x34], .ld_L_d8 0x34), ([0x2F], .cpl),
      ([0x30, 0x34], .jr_NC_e8 0x34), ([0x31, 0x34, 0x12], .ld_SP_d16 0x1234), ([0x32], .ld_atHLdec_A),
      ([0x33], .inc_SP), ([0x34], .inc_atHL), ([0x35], .dec_atHL), ([0x36, 0x34], .ld_atHL_d8 0x34), ([0x37], .scf),
      ([0x38, 0x34], .jr_C_e8 0x34), ([0x39], .add_HL_SP), ([0x3A], .ld_A_atHLdec), ([0x3B], .dec_SP),
      ([0x3C], .inc_A), ([0x3D], .dec_A), ([0x3E, 0x34], .ld_A_d8 0x34), ([0x3F], .ccf)] :
      List (List Byte × Instr)).all reads = true := by decide

theorem test_decode_base_40_to_5F :
    ([
      ([0x40], .ld_B_B), ([0x41], .ld_B_C), ([0x42], .ld_B_D), ([0x43], .ld_B_E), ([0x44], .ld_B_H),
      ([0x45], .ld_B_L), ([0x46], .ld_B_atHL), ([0x47], .ld_B_A), ([0x48], .ld_C_B), ([0x49], .ld_C_C),
      ([0x4A], .ld_C_D), ([0x4B], .ld_C_E), ([0x4C], .ld_C_H), ([0x4D], .ld_C_L), ([0x4E], .ld_C_atHL),
      ([0x4F], .ld_C_A), ([0x50], .ld_D_B), ([0x51], .ld_D_C), ([0x52], .ld_D_D), ([0x53], .ld_D_E),
      ([0x54], .ld_D_H), ([0x55], .ld_D_L), ([0x56], .ld_D_atHL), ([0x57], .ld_D_A), ([0x58], .ld_E_B),
      ([0x59], .ld_E_C), ([0x5A], .ld_E_D), ([0x5B], .ld_E_E), ([0x5C], .ld_E_H), ([0x5D], .ld_E_L),
      ([0x5E], .ld_E_atHL), ([0x5F], .ld_E_A)] :
      List (List Byte × Instr)).all reads = true := by decide

theorem test_decode_base_60_to_7F :
    ([
      ([0x60], .ld_H_B), ([0x61], .ld_H_C), ([0x62], .ld_H_D), ([0x63], .ld_H_E), ([0x64], .ld_H_H),
      ([0x65], .ld_H_L), ([0x66], .ld_H_atHL), ([0x67], .ld_H_A), ([0x68], .ld_L_B), ([0x69], .ld_L_C),
      ([0x6A], .ld_L_D), ([0x6B], .ld_L_E), ([0x6C], .ld_L_H), ([0x6D], .ld_L_L), ([0x6E], .ld_L_atHL),
      ([0x6F], .ld_L_A), ([0x70], .ld_atHL_B), ([0x71], .ld_atHL_C), ([0x72], .ld_atHL_D), ([0x73], .ld_atHL_E),
      ([0x74], .ld_atHL_H), ([0x75], .ld_atHL_L), ([0x76], .halt), ([0x77], .ld_atHL_A), ([0x78], .ld_A_B),
      ([0x79], .ld_A_C), ([0x7A], .ld_A_D), ([0x7B], .ld_A_E), ([0x7C], .ld_A_H), ([0x7D], .ld_A_L),
      ([0x7E], .ld_A_atHL), ([0x7F], .ld_A_A)] :
      List (List Byte × Instr)).all reads = true := by decide

theorem test_decode_base_80_to_9F :
    ([
      ([0x80], .add_A_B), ([0x81], .add_A_C), ([0x82], .add_A_D), ([0x83], .add_A_E), ([0x84], .add_A_H),
      ([0x85], .add_A_L), ([0x86], .add_A_atHL), ([0x87], .add_A_A), ([0x88], .adc_A_B), ([0x89], .adc_A_C),
      ([0x8A], .adc_A_D), ([0x8B], .adc_A_E), ([0x8C], .adc_A_H), ([0x8D], .adc_A_L), ([0x8E], .adc_A_atHL),
      ([0x8F], .adc_A_A), ([0x90], .sub_A_B), ([0x91], .sub_A_C), ([0x92], .sub_A_D), ([0x93], .sub_A_E),
      ([0x94], .sub_A_H), ([0x95], .sub_A_L), ([0x96], .sub_A_atHL), ([0x97], .sub_A_A), ([0x98], .sbc_A_B),
      ([0x99], .sbc_A_C), ([0x9A], .sbc_A_D), ([0x9B], .sbc_A_E), ([0x9C], .sbc_A_H), ([0x9D], .sbc_A_L),
      ([0x9E], .sbc_A_atHL), ([0x9F], .sbc_A_A)] :
      List (List Byte × Instr)).all reads = true := by decide

theorem test_decode_base_A0_to_BF :
    ([
      ([0xA0], .and_A_B), ([0xA1], .and_A_C), ([0xA2], .and_A_D), ([0xA3], .and_A_E), ([0xA4], .and_A_H),
      ([0xA5], .and_A_L), ([0xA6], .and_A_atHL), ([0xA7], .and_A_A), ([0xA8], .xor_A_B), ([0xA9], .xor_A_C),
      ([0xAA], .xor_A_D), ([0xAB], .xor_A_E), ([0xAC], .xor_A_H), ([0xAD], .xor_A_L), ([0xAE], .xor_A_atHL),
      ([0xAF], .xor_A_A), ([0xB0], .or_A_B), ([0xB1], .or_A_C), ([0xB2], .or_A_D), ([0xB3], .or_A_E),
      ([0xB4], .or_A_H), ([0xB5], .or_A_L), ([0xB6], .or_A_atHL), ([0xB7], .or_A_A), ([0xB8], .cp_A_B),
      ([0xB9], .cp_A_C), ([0xBA], .cp_A_D), ([0xBB], .cp_A_E), ([0xBC], .cp_A_H), ([0xBD], .cp_A_L),
      ([0xBE], .cp_A_atHL), ([0xBF], .cp_A_A)] :
      List (List Byte × Instr)).all reads = true := by decide

theorem test_decode_base_C0_to_DF :
    ([
      ([0xC0], .ret_NZ), ([0xC1], .pop_BC), ([0xC2, 0x34, 0x12], .jp_NZ_a16 0x1234),
      ([0xC3, 0x34, 0x12], .jp_a16 0x1234), ([0xC4, 0x34, 0x12], .call_NZ_a16 0x1234), ([0xC5], .push_BC),
      ([0xC6, 0x34], .add_A_d8 0x34), ([0xC7], .rst_00H), ([0xC8], .ret_Z), ([0xC9], .ret),
      ([0xCA, 0x34, 0x12], .jp_Z_a16 0x1234), ([0xCB], .cbPrefix), ([0xCC, 0x34, 0x12], .call_Z_a16 0x1234),
      ([0xCD, 0x34, 0x12], .call_a16 0x1234), ([0xCE, 0x34], .adc_A_d8 0x34), ([0xCF], .rst_08H), ([0xD0], .ret_NC),
      ([0xD1], .pop_DE), ([0xD2, 0x34, 0x12], .jp_NC_a16 0x1234), ([0xD3], .illegal 0xD3),
      ([0xD4, 0x34, 0x12], .call_NC_a16 0x1234), ([0xD5], .push_DE), ([0xD6, 0x34], .sub_A_d8 0x34),
      ([0xD7], .rst_10H), ([0xD8], .ret_C), ([0xD9], .reti), ([0xDA, 0x34, 0x12], .jp_C_a16 0x1234),
      ([0xDB], .illegal 0xDB), ([0xDC, 0x34, 0x12], .call_C_a16 0x1234), ([0xDD], .illegal 0xDD),
      ([0xDE, 0x34], .sbc_A_d8 0x34), ([0xDF], .rst_18H)] :
      List (List Byte × Instr)).all reads = true := by decide

theorem test_decode_base_E0_to_FF :
    ([
      ([0xE0, 0x34], .ldh_atA8_A 0x34), ([0xE1], .pop_HL), ([0xE2], .ld_atC_A), ([0xE3], .illegal 0xE3),
      ([0xE4], .illegal 0xE4), ([0xE5], .push_HL), ([0xE6, 0x34], .and_A_d8 0x34), ([0xE7], .rst_20H),
      ([0xE8, 0x34], .add_SP_e8 0x34), ([0xE9], .jp_HL), ([0xEA, 0x34, 0x12], .ld_atA16_A 0x1234),
      ([0xEB], .illegal 0xEB), ([0xEC], .illegal 0xEC), ([0xED], .illegal 0xED), ([0xEE, 0x34], .xor_A_d8 0x34),
      ([0xEF], .rst_28H), ([0xF0, 0x34], .ldh_A_atA8 0x34), ([0xF1], .pop_AF), ([0xF2], .ld_A_atC), ([0xF3], .di),
      ([0xF4], .illegal 0xF4), ([0xF5], .push_AF), ([0xF6, 0x34], .or_A_d8 0x34), ([0xF7], .rst_30H),
      ([0xF8, 0x34], .ld_HL_SPe8 0x34), ([0xF9], .ld_SP_HL), ([0xFA, 0x34, 0x12], .ld_A_atA16 0x1234), ([0xFB], .ei),
      ([0xFC], .illegal 0xFC), ([0xFD], .illegal 0xFD), ([0xFE, 0x34], .cp_A_d8 0x34), ([0xFF], .rst_38H)] :
      List (List Byte × Instr)).all reads = true := by decide

theorem test_decode_cb_00_to_1F :
    ([
      ([0xCB, 0x00], .rlc_B), ([0xCB, 0x01], .rlc_C), ([0xCB, 0x02], .rlc_D), ([0xCB, 0x03], .rlc_E),
      ([0xCB, 0x04], .rlc_H), ([0xCB, 0x05], .rlc_L), ([0xCB, 0x06], .rlc_atHL), ([0xCB, 0x07], .rlc_A),
      ([0xCB, 0x08], .rrc_B), ([0xCB, 0x09], .rrc_C), ([0xCB, 0x0A], .rrc_D), ([0xCB, 0x0B], .rrc_E),
      ([0xCB, 0x0C], .rrc_H), ([0xCB, 0x0D], .rrc_L), ([0xCB, 0x0E], .rrc_atHL), ([0xCB, 0x0F], .rrc_A),
      ([0xCB, 0x10], .rl_B), ([0xCB, 0x11], .rl_C), ([0xCB, 0x12], .rl_D), ([0xCB, 0x13], .rl_E),
      ([0xCB, 0x14], .rl_H), ([0xCB, 0x15], .rl_L), ([0xCB, 0x16], .rl_atHL), ([0xCB, 0x17], .rl_A),
      ([0xCB, 0x18], .rr_B), ([0xCB, 0x19], .rr_C), ([0xCB, 0x1A], .rr_D), ([0xCB, 0x1B], .rr_E),
      ([0xCB, 0x1C], .rr_H), ([0xCB, 0x1D], .rr_L), ([0xCB, 0x1E], .rr_atHL), ([0xCB, 0x1F], .rr_A)] :
      List (List Byte × Instr)).all reads = true := by decide

theorem test_decode_cb_20_to_3F :
    ([
      ([0xCB, 0x20], .sla_B), ([0xCB, 0x21], .sla_C), ([0xCB, 0x22], .sla_D), ([0xCB, 0x23], .sla_E),
      ([0xCB, 0x24], .sla_H), ([0xCB, 0x25], .sla_L), ([0xCB, 0x26], .sla_atHL), ([0xCB, 0x27], .sla_A),
      ([0xCB, 0x28], .sra_B), ([0xCB, 0x29], .sra_C), ([0xCB, 0x2A], .sra_D), ([0xCB, 0x2B], .sra_E),
      ([0xCB, 0x2C], .sra_H), ([0xCB, 0x2D], .sra_L), ([0xCB, 0x2E], .sra_atHL), ([0xCB, 0x2F], .sra_A),
      ([0xCB, 0x30], .swap_B), ([0xCB, 0x31], .swap_C), ([0xCB, 0x32], .swap_D), ([0xCB, 0x33], .swap_E),
      ([0xCB, 0x34], .swap_H), ([0xCB, 0x35], .swap_L), ([0xCB, 0x36], .swap_atHL), ([0xCB, 0x37], .swap_A),
      ([0xCB, 0x38], .srl_B), ([0xCB, 0x39], .srl_C), ([0xCB, 0x3A], .srl_D), ([0xCB, 0x3B], .srl_E),
      ([0xCB, 0x3C], .srl_H), ([0xCB, 0x3D], .srl_L), ([0xCB, 0x3E], .srl_atHL), ([0xCB, 0x3F], .srl_A)] :
      List (List Byte × Instr)).all reads = true := by decide

theorem test_decode_cb_40_to_5F :
    ([
      ([0xCB, 0x40], .bit_0_B), ([0xCB, 0x41], .bit_0_C), ([0xCB, 0x42], .bit_0_D), ([0xCB, 0x43], .bit_0_E),
      ([0xCB, 0x44], .bit_0_H), ([0xCB, 0x45], .bit_0_L), ([0xCB, 0x46], .bit_0_atHL), ([0xCB, 0x47], .bit_0_A),
      ([0xCB, 0x48], .bit_1_B), ([0xCB, 0x49], .bit_1_C), ([0xCB, 0x4A], .bit_1_D), ([0xCB, 0x4B], .bit_1_E),
      ([0xCB, 0x4C], .bit_1_H), ([0xCB, 0x4D], .bit_1_L), ([0xCB, 0x4E], .bit_1_atHL), ([0xCB, 0x4F], .bit_1_A),
      ([0xCB, 0x50], .bit_2_B), ([0xCB, 0x51], .bit_2_C), ([0xCB, 0x52], .bit_2_D), ([0xCB, 0x53], .bit_2_E),
      ([0xCB, 0x54], .bit_2_H), ([0xCB, 0x55], .bit_2_L), ([0xCB, 0x56], .bit_2_atHL), ([0xCB, 0x57], .bit_2_A),
      ([0xCB, 0x58], .bit_3_B), ([0xCB, 0x59], .bit_3_C), ([0xCB, 0x5A], .bit_3_D), ([0xCB, 0x5B], .bit_3_E),
      ([0xCB, 0x5C], .bit_3_H), ([0xCB, 0x5D], .bit_3_L), ([0xCB, 0x5E], .bit_3_atHL), ([0xCB, 0x5F], .bit_3_A)] :
      List (List Byte × Instr)).all reads = true := by decide

theorem test_decode_cb_60_to_7F :
    ([
      ([0xCB, 0x60], .bit_4_B), ([0xCB, 0x61], .bit_4_C), ([0xCB, 0x62], .bit_4_D), ([0xCB, 0x63], .bit_4_E),
      ([0xCB, 0x64], .bit_4_H), ([0xCB, 0x65], .bit_4_L), ([0xCB, 0x66], .bit_4_atHL), ([0xCB, 0x67], .bit_4_A),
      ([0xCB, 0x68], .bit_5_B), ([0xCB, 0x69], .bit_5_C), ([0xCB, 0x6A], .bit_5_D), ([0xCB, 0x6B], .bit_5_E),
      ([0xCB, 0x6C], .bit_5_H), ([0xCB, 0x6D], .bit_5_L), ([0xCB, 0x6E], .bit_5_atHL), ([0xCB, 0x6F], .bit_5_A),
      ([0xCB, 0x70], .bit_6_B), ([0xCB, 0x71], .bit_6_C), ([0xCB, 0x72], .bit_6_D), ([0xCB, 0x73], .bit_6_E),
      ([0xCB, 0x74], .bit_6_H), ([0xCB, 0x75], .bit_6_L), ([0xCB, 0x76], .bit_6_atHL), ([0xCB, 0x77], .bit_6_A),
      ([0xCB, 0x78], .bit_7_B), ([0xCB, 0x79], .bit_7_C), ([0xCB, 0x7A], .bit_7_D), ([0xCB, 0x7B], .bit_7_E),
      ([0xCB, 0x7C], .bit_7_H), ([0xCB, 0x7D], .bit_7_L), ([0xCB, 0x7E], .bit_7_atHL), ([0xCB, 0x7F], .bit_7_A)] :
      List (List Byte × Instr)).all reads = true := by decide

theorem test_decode_cb_80_to_9F :
    ([
      ([0xCB, 0x80], .res_0_B), ([0xCB, 0x81], .res_0_C), ([0xCB, 0x82], .res_0_D), ([0xCB, 0x83], .res_0_E),
      ([0xCB, 0x84], .res_0_H), ([0xCB, 0x85], .res_0_L), ([0xCB, 0x86], .res_0_atHL), ([0xCB, 0x87], .res_0_A),
      ([0xCB, 0x88], .res_1_B), ([0xCB, 0x89], .res_1_C), ([0xCB, 0x8A], .res_1_D), ([0xCB, 0x8B], .res_1_E),
      ([0xCB, 0x8C], .res_1_H), ([0xCB, 0x8D], .res_1_L), ([0xCB, 0x8E], .res_1_atHL), ([0xCB, 0x8F], .res_1_A),
      ([0xCB, 0x90], .res_2_B), ([0xCB, 0x91], .res_2_C), ([0xCB, 0x92], .res_2_D), ([0xCB, 0x93], .res_2_E),
      ([0xCB, 0x94], .res_2_H), ([0xCB, 0x95], .res_2_L), ([0xCB, 0x96], .res_2_atHL), ([0xCB, 0x97], .res_2_A),
      ([0xCB, 0x98], .res_3_B), ([0xCB, 0x99], .res_3_C), ([0xCB, 0x9A], .res_3_D), ([0xCB, 0x9B], .res_3_E),
      ([0xCB, 0x9C], .res_3_H), ([0xCB, 0x9D], .res_3_L), ([0xCB, 0x9E], .res_3_atHL), ([0xCB, 0x9F], .res_3_A)] :
      List (List Byte × Instr)).all reads = true := by decide

theorem test_decode_cb_A0_to_BF :
    ([
      ([0xCB, 0xA0], .res_4_B), ([0xCB, 0xA1], .res_4_C), ([0xCB, 0xA2], .res_4_D), ([0xCB, 0xA3], .res_4_E),
      ([0xCB, 0xA4], .res_4_H), ([0xCB, 0xA5], .res_4_L), ([0xCB, 0xA6], .res_4_atHL), ([0xCB, 0xA7], .res_4_A),
      ([0xCB, 0xA8], .res_5_B), ([0xCB, 0xA9], .res_5_C), ([0xCB, 0xAA], .res_5_D), ([0xCB, 0xAB], .res_5_E),
      ([0xCB, 0xAC], .res_5_H), ([0xCB, 0xAD], .res_5_L), ([0xCB, 0xAE], .res_5_atHL), ([0xCB, 0xAF], .res_5_A),
      ([0xCB, 0xB0], .res_6_B), ([0xCB, 0xB1], .res_6_C), ([0xCB, 0xB2], .res_6_D), ([0xCB, 0xB3], .res_6_E),
      ([0xCB, 0xB4], .res_6_H), ([0xCB, 0xB5], .res_6_L), ([0xCB, 0xB6], .res_6_atHL), ([0xCB, 0xB7], .res_6_A),
      ([0xCB, 0xB8], .res_7_B), ([0xCB, 0xB9], .res_7_C), ([0xCB, 0xBA], .res_7_D), ([0xCB, 0xBB], .res_7_E),
      ([0xCB, 0xBC], .res_7_H), ([0xCB, 0xBD], .res_7_L), ([0xCB, 0xBE], .res_7_atHL), ([0xCB, 0xBF], .res_7_A)] :
      List (List Byte × Instr)).all reads = true := by decide

theorem test_decode_cb_C0_to_DF :
    ([
      ([0xCB, 0xC0], .set_0_B), ([0xCB, 0xC1], .set_0_C), ([0xCB, 0xC2], .set_0_D), ([0xCB, 0xC3], .set_0_E),
      ([0xCB, 0xC4], .set_0_H), ([0xCB, 0xC5], .set_0_L), ([0xCB, 0xC6], .set_0_atHL), ([0xCB, 0xC7], .set_0_A),
      ([0xCB, 0xC8], .set_1_B), ([0xCB, 0xC9], .set_1_C), ([0xCB, 0xCA], .set_1_D), ([0xCB, 0xCB], .set_1_E),
      ([0xCB, 0xCC], .set_1_H), ([0xCB, 0xCD], .set_1_L), ([0xCB, 0xCE], .set_1_atHL), ([0xCB, 0xCF], .set_1_A),
      ([0xCB, 0xD0], .set_2_B), ([0xCB, 0xD1], .set_2_C), ([0xCB, 0xD2], .set_2_D), ([0xCB, 0xD3], .set_2_E),
      ([0xCB, 0xD4], .set_2_H), ([0xCB, 0xD5], .set_2_L), ([0xCB, 0xD6], .set_2_atHL), ([0xCB, 0xD7], .set_2_A),
      ([0xCB, 0xD8], .set_3_B), ([0xCB, 0xD9], .set_3_C), ([0xCB, 0xDA], .set_3_D), ([0xCB, 0xDB], .set_3_E),
      ([0xCB, 0xDC], .set_3_H), ([0xCB, 0xDD], .set_3_L), ([0xCB, 0xDE], .set_3_atHL), ([0xCB, 0xDF], .set_3_A)] :
      List (List Byte × Instr)).all reads = true := by decide

theorem test_decode_cb_E0_to_FF :
    ([
      ([0xCB, 0xE0], .set_4_B), ([0xCB, 0xE1], .set_4_C), ([0xCB, 0xE2], .set_4_D), ([0xCB, 0xE3], .set_4_E),
      ([0xCB, 0xE4], .set_4_H), ([0xCB, 0xE5], .set_4_L), ([0xCB, 0xE6], .set_4_atHL), ([0xCB, 0xE7], .set_4_A),
      ([0xCB, 0xE8], .set_5_B), ([0xCB, 0xE9], .set_5_C), ([0xCB, 0xEA], .set_5_D), ([0xCB, 0xEB], .set_5_E),
      ([0xCB, 0xEC], .set_5_H), ([0xCB, 0xED], .set_5_L), ([0xCB, 0xEE], .set_5_atHL), ([0xCB, 0xEF], .set_5_A),
      ([0xCB, 0xF0], .set_6_B), ([0xCB, 0xF1], .set_6_C), ([0xCB, 0xF2], .set_6_D), ([0xCB, 0xF3], .set_6_E),
      ([0xCB, 0xF4], .set_6_H), ([0xCB, 0xF5], .set_6_L), ([0xCB, 0xF6], .set_6_atHL), ([0xCB, 0xF7], .set_6_A),
      ([0xCB, 0xF8], .set_7_B), ([0xCB, 0xF9], .set_7_C), ([0xCB, 0xFA], .set_7_D), ([0xCB, 0xFB], .set_7_E),
      ([0xCB, 0xFC], .set_7_H), ([0xCB, 0xFD], .set_7_L), ([0xCB, 0xFE], .set_7_atHL), ([0xCB, 0xFF], .set_7_A)] :
      List (List Byte × Instr)).all reads = true := by decide

/-- One instruction of each family, bit by bit from the fields of spec/30_encoding.md section 3. -/
theorem test_decode_bit_by_bit :
    reads ([0b01_111_000], .ld_A_B) ∧ reads ([0b00_111_110, 0b0111_1111], .ld_A_d8 0x7F) ∧
      reads ([0b00_11_0001, 0b1111_1110, 0b1111_1111], .ld_SP_d16 0xFFFE) ∧ reads ([0b11_11_0101], .push_AF) ∧
      reads ([0b10_001_011], .adc_A_E) ∧ reads ([0b11_111_110, 0x3C], .cp_A_d8 0x3C) ∧ reads ([0b00_110_101], .dec_atHL) ∧
      reads ([0b00_10_1001], .add_HL_HL) ∧ reads ([0b00_001_111], .rrca) ∧
      reads ([0b1100_1011, 0b00_110_111], .swap_A) ∧ reads ([0b1100_1011, 0b01_100_101], .bit_4_L) ∧
      reads ([0b1100_1011, 0b11_011_001], .set_3_C) ∧ reads ([0b110_00_010, 0x00, 0x20], .jp_NZ_a16 0x2000) ∧
      reads ([0b001_10_000, 0x10], .jr_NC_e8 0x10) ∧ reads ([0b110_11_100, 0x34, 0x12], .call_C_a16 0x1234) ∧
      reads ([0b11_101_111], .rst_28H) ∧ reads ([0b0111_0110], .halt) := by decide

/-- Missing operand bytes and no byte at all are rejected by name. -/
theorem test_decode_rejects :
    decode [] = .rejected .noOpcode ∧ decode [0x3E] = .rejected (.truncated 0x3E) ∧
      decode [0xC3, 0x50] = .rejected (.truncated 0xC3) := by decide

/-- The table's numbering (R176): a row's own bits, operands zero; CB rows with 0xCB in the upper byte. -/
theorem test_decodeTableWord :
    decodeTableWord 8 0x78 = some .ld_A_B ∧ decodeTableWord 8 0x3E = some (.ld_A_d8 0x00) ∧
      decodeTableWord 8 0xC3 = some (.jp_a16 0x0000) ∧ decodeTableWord 16 0xCB7C = some .bit_7_H ∧
      decodeTableWord 8 0xCB = some .cbPrefix ∧ decodeTableWord 8 0xDD = some (.illegal 0xDD) := by decide
/-! ## Vectors of spec/95_test_vectors.md, one instruction from launch state L0 (its section 0) -/

/-- L0 (R533) with the pairs AF, BC, DE, HL, SP and work RAM given. -/
def l0 (af bc de hl : Word) (sp : Word := 0) (w : Memory := []) : State :=
  { State.reset with
    bootEnabled := false
    pc := 0x0100
    sp := sp
    wram := { buf := w, current := 0 }
    regs :=
      { a := hiByte af, f := loByte af, b := hiByte bc, c := loByte bc, d := hiByte de, e := loByte de, h := hiByte hl,
        l := loByte hl } }

/-- The bytes, fetched at 0x0100, lead from one state to the other, the whole state compared, in so many cycles. -/
def vec (bytes : List Byte) (before after : State) (cycles : Nat) (pc : Word := 0x0100 + BitVec.ofNat 16 bytes.length) :
    Bool :=
  match decode bytes with
  | .instr i [] =>
    match exec i { before with pc := 0x0100 + BitVec.ofNat 16 bytes.length, stepCycles := 4 * bytes.length } with
    | .next t => decide (t = { after with pc := pc, stepCycles := cycles })
    | _ => false
  | _ => false

/-- LD1 to LD9. -/
theorem test_load8_vectors_1 :
    vec [0x41] (l0 0 0x005A 0 0) (l0 0 0x5A5A 0 0) 4 ∧ vec [0x7F] (l0 0x12F0 0 0 0) (l0 0x12F0 0 0 0) 4 ∧
      vec [0x16, 0xFF] (l0 0 0 0 0) (l0 0 0 0xFF00 0) 8 ∧
      vec [0x5E] (l0 0 0 0 0xC123 0 [(0x123, 0x77)]) (l0 0 0 0x0077 0xC123 0 [(0x123, 0x77)]) 8 ∧
      vec [0x70] (l0 0 0x9900 0 0xC000) (l0 0 0x9900 0 0xC000 0 [(0, 0x99)]) 8 ∧
      vec [0x36, 0xAB] (l0 0 0 0 0xDFFF) (l0 0 0 0 0xDFFF 0 [(0x1FFF, 0xAB)]) 12 ∧
      vec [0x0A] (l0 0 0xC010 0 0 0 [(0x10, 0x42)]) (l0 0x4200 0xC010 0 0 0 [(0x10, 0x42)]) 8 ∧
      vec [0x1A] (l0 0 0 0xE010 0 0 [(0x10, 0x43)]) (l0 0x4300 0 0xE010 0 0 [(0x10, 0x43)]) 8 ∧
      vec [0x02] (l0 0x1100 0xC020 0 0) (l0 0x1100 0xC020 0 0 0 [(0x20, 0x11)]) 8 := by decide

/-- LD10 to LD20. -/
theorem test_load8_vectors_2 :
    vec [0x12] (l0 0x2200 0 0x8000 0) { l0 0x2200 0 0x8000 0 with vram := { buf := [(0, 0x22)], current := 0 } } 8 ∧
      vec [0xFA, 0x34, 0xC2] (l0 0 0 0 0 0 [(0x234, 0x66)]) (l0 0x6600 0 0 0 0 [(0x234, 0x66)]) 16 ∧
      vec [0xEA, 0x80, 0xFF] (l0 0x5C00 0 0 0) { l0 0x5C00 0 0 0 with hram := [(0, 0x5C)] } 16 ∧
      vec [0xF0, 0x80] { l0 0 0 0 0 with hram := [(0, 0x3D)] } { l0 0x3D00 0 0 0 with hram := [(0, 0x3D)] } 12 ∧
      vec [0xE0, 0x47] (l0 0xE400 0 0 0) { l0 0xE400 0 0 0 with ppu := { Ppu.reset with bgp := 0xE4 } } 12 ∧
      vec [0xF2] { l0 0 0x0081 0 0 with hram := [(1, 0x9A)] } { l0 0x9A00 0x0081 0 0 with hram := [(1, 0x9A)] } 8 ∧
      vec [0xE2] (l0 0x9B00 0x0082 0 0) { l0 0x9B00 0x0082 0 0 with hram := [(2, 0x9B)] } 8 ∧
      vec [0x22] (l0 0x1F00 0 0 0xFFFF) { l0 0x1F00 0 0 0x0000 with ie := 0x1F } 8 ∧
      vec [0x2A] (l0 0 0 0 0xC0FF 0 [(0xFF, 0x56)]) (l0 0x5600 0 0 0xC100 0 [(0xFF, 0x56)]) 8 ∧
      vec [0x32] (l0 0x0A00 0 0 0x0000) (l0 0x0A00 0 0 0xFFFF) 8 ∧
      vec [0x3A] (l0 0 0 0 0xC000 0 [(0, 0x3C)]) (l0 0x3C00 0 0 0xBFFF 0 [(0, 0x3C)]) 8 := by decide

/-- LS1 to LS8. -/
theorem test_load16_vectors :
    vec [0x01, 0x34, 0x12] (l0 0 0 0 0) (l0 0 0x1234 0 0) 12 ∧ vec [0x31, 0xFE, 0xFF] (l0 0 0 0 0) (l0 0 0 0 0 0xFFFE) 12 ∧
      vec [0x08, 0x00, 0xC1] (l0 0 0 0 0 0xFFF8) (l0 0 0 0 0 0xFFF8 [(0x100, 0xF8), (0x101, 0xFF)]) 20 ∧
      vec [0xF9] (l0 0x00F0 0 0 0xD000) (l0 0x00F0 0 0 0xD000 0xD000) 8 ∧
      vec [0xF8, 0x02] (l0 0 0 0 0 0xFFF8) (l0 0 0 0 0xFFFA 0xFFF8) 12 ∧
      vec [0xF8, 0xFF] (l0 0 0 0 0 0) (l0 0 0 0 0xFFFF 0) 12 ∧
      vec [0xF8, 0x01] (l0 0 0 0 0 0x00FF) (l0 0x0030 0 0 0x0100 0x00FF) 12 ∧
      vec [0xF8, 0x80] (l0 0 0 0 0 0x0080) (l0 0x0010 0 0 0x0000 0x0080) 12 := by decide

/-- LS9 to LS13. -/
theorem test_stack_vectors :
    vec [0xC5] (l0 0 0x1234 0 0 0xD000) (l0 0 0x1234 0 0 0xCFFE [(0xFFE, 0x34), (0xFFF, 0x12)]) 16 ∧
      vec [0xF5] (l0 0x12F0 0 0 0 0xD000) (l0 0x12F0 0 0 0 0xCFFE [(0xFFE, 0xF0), (0xFFF, 0x12)]) 16 ∧
      vec [0xD1] (l0 0 0 0 0 0xC000 [(0, 0xCD), (1, 0xAB)]) (l0 0 0 0xABCD 0 0xC002 [(0, 0xCD), (1, 0xAB)]) 12 ∧
      vec [0xF1] (l0 0 0 0 0 0xC000 [(0, 0xFF), (1, 0x12)]) (l0 0x12F0 0 0 0 0xC002 [(0, 0xFF), (1, 0x12)]) 12 ∧
      vec [0xE5] (l0 0 0 0 0xBEEF 0) { l0 0 0 0 0xBEEF 0xFFFE with ie := 0x1E, hram := [(0x7E, 0xEF)] } 16 := by decide

/-- AL1 to AL16. -/
theorem test_add_subtract_vectors :
    vec [0x80] (l0 0x3A00 0xC600 0 0) (l0 0x00B0 0xC600 0 0) 4 ∧ vec [0x87] (l0 0x8800 0 0 0) (l0 0x1030 0 0 0) 4 ∧
      vec [0x81] (l0 0xFF00 0x0001 0 0) (l0 0x00B0 0x0001 0 0) 4 ∧ vec [0xC6, 0x0F] (l0 0x0100 0 0 0) (l0 0x1020 0 0 0) 8 ∧
      vec [0x86] (l0 0x0F00 0 0 0xC000 0 [(0, 0x01)]) (l0 0x1020 0 0 0xC000 0 [(0, 0x01)]) 8 ∧
      vec [0x8B] (l0 0xE110 0 0x000F 0) (l0 0xF120 0 0x000F 0) 4 ∧ vec [0xCE, 0xFF] (l0 0x0010 0 0 0) (l0 0x00B0 0 0 0) 8 ∧
      vec [0x8F] (l0 0x8010 0 0 0) (l0 0x0110 0 0 0) 4 ∧ vec [0x97] (l0 0x5D10 0 0 0) (l0 0x00C0 0 0 0) 4 ∧
      vec [0x90] (l0 0x0000 0x0100 0 0) (l0 0xFF70 0x0100 0 0) 4 ∧ vec [0xD6, 0x0F] (l0 0x3E00 0 0 0) (l0 0x2F60 0 0 0) 8 ∧
      vec [0xD6, 0x10] (l0 0x1000 0 0 0) (l0 0x00C0 0 0 0) 8 ∧ vec [0x9C] (l0 0x3B10 0 0 0x2A00) (l0 0x1040 0 0 0x2A00) 4 ∧
      vec [0xDE, 0xFF] (l0 0x0010 0 0 0) (l0 0x00F0 0 0 0) 8 ∧ vec [0xDE, 0x00] (l0 0x0010 0 0 0) (l0 0xFF70 0 0 0) 8 ∧
      vec [0x9F] (l0 0x7710 0 0 0) (l0 0xFF70 0 0 0) 4 := by decide

/-- AL17 to AL33. -/
theorem test_logic_compare_inc_dec_vectors :
    vec [0xA5] (l0 0x5A00 0 0 0x003F) (l0 0x1A20 0 0 0x003F) 4 ∧ vec [0xE6, 0x00] (l0 0xFF10 0 0 0) (l0 0x00A0 0 0 0) 8 ∧
      vec [0xAF] (l0 0xFFF0 0 0 0) (l0 0x0080 0 0 0) 4 ∧ vec [0xEE, 0x0F] (l0 0xFF00 0 0 0) (l0 0xF000 0 0 0) 8 ∧
      vec [0xB0] (l0 0x00F0 0 0 0) (l0 0x0080 0 0 0) 4 ∧ vec [0xF6, 0x03] (l0 0x5A00 0 0 0) (l0 0x5B00 0 0 0) 8 ∧
      vec [0xB8] (l0 0x3C00 0x2F00 0 0) (l0 0x3C60 0x2F00 0 0) 4 ∧ vec [0xFE, 0x3C] (l0 0x3C00 0 0 0) (l0 0x3CC0 0 0 0) 8 ∧
      vec [0xFE, 0x40] (l0 0x3C00 0 0 0) (l0 0x3C50 0 0 0) 8 ∧
      vec [0xBE] (l0 0x3C00 0 0 0xC000 0 [(0, 0x40)]) (l0 0x3C50 0 0 0xC000 0 [(0, 0x40)]) 8 ∧
      vec [0x04] (l0 0x0010 0xFF00 0 0) (l0 0x00B0 0x0000 0 0) 4 ∧ vec [0x3C] (l0 0x0F00 0 0 0) (l0 0x1020 0 0 0) 4 ∧
      vec [0x34] (l0 0x0010 0 0 0xC000 0 [(0, 0xFF)]) (l0 0x00B0 0 0 0xC000 0 []) 12 ∧
      vec [0x05] (l0 0x0010 0x0100 0 0) (l0 0x00D0 0x0000 0 0) 4 ∧ vec [0x0D] (l0 0 0x0000 0 0) (l0 0x0060 0x00FF 0 0) 4 ∧
      vec [0x2D] (l0 0 0 0 0x0010) (l0 0x0060 0 0 0x000F) 4 ∧
      vec [0x35] (l0 0 0 0 0xC000 0 []) (l0 0x0060 0 0 0xC000 0 [(0, 0xFF)]) 12 := by decide

/-- AL34 to AL42. -/
theorem test_daa_cpl_carry_vectors :
    vec [0x27] (l0 0x7D00 0 0 0) (l0 0x8300 0 0 0) 4 ∧ vec [0x27] (l0 0x4B60 0 0 0) (l0 0x4540 0 0 0) 4 ∧
      vec [0x27] (l0 0x9A00 0 0 0) (l0 0x0090 0 0 0) 4 ∧ vec [0x27] (l0 0x0070 0 0 0) (l0 0x9A50 0 0 0) 4 ∧
      vec [0x27] (l0 0x1110 0 0 0) (l0 0x7110 0 0 0) 4 ∧ vec [0x2F] (l0 0x3590 0 0 0) (l0 0xCAF0 0 0 0) 4 ∧
      vec [0x37] (l0 0x00E0 0 0 0) (l0 0x0090 0 0 0) 4 ∧ vec [0x3F] (l0 0x00F0 0 0 0) (l0 0x0080 0 0 0) 4 ∧
      vec [0x3F] (l0 0x0000 0 0 0) (l0 0x0010 0 0 0) 4 := by decide

/-- AW1 to AW11. -/
theorem test_alu16_vectors :
    vec [0x09] (l0 0x0080 0x0605 0 0x8A23) (l0 0x00A0 0x0605 0 0x9028) 8 ∧
      vec [0x29] (l0 0 0 0 0x8A23) (l0 0x0030 0 0 0x1446) 8 ∧
      vec [0x39] (l0 0 0 0 0xFFFF 1) (l0 0x0030 0 0 0x0000 1) 8 ∧
      vec [0x19] (l0 0x00C0 0 0x0001 0x0FFF) (l0 0x00A0 0 0x0001 0x1000) 8 ∧
      vec [0x03] (l0 0x00F0 0xFFFF 0 0) (l0 0x00F0 0x0000 0 0) 8 ∧ vec [0x3B] (l0 0 0 0 0 0) (l0 0 0 0 0 0xFFFF) 8 ∧
      vec [0x23] (l0 0 0 0 0x00FF) (l0 0 0 0 0x0100) 8 ∧
      vec [0xE8, 0x02] (l0 0 0 0 0 0xFFF8) (l0 0 0 0 0 0xFFFA) 16 ∧
      vec [0xE8, 0xFF] (l0 0 0 0 0 0x0001) (l0 0x0030 0 0 0 0x0000) 16 ∧
      vec [0xE8, 0xFF] (l0 0 0 0 0 0x0000) (l0 0 0 0 0 0xFFFF) 16 ∧
      vec [0xE8, 0x08] (l0 0 0 0 0 0x00F8) (l0 0x0030 0 0 0 0x0100) 16 := by decide

/-- RB1 to RB22. -/
theorem test_rotate_shift_vectors :
    vec [0x07] (l0 0x8500 0 0 0) (l0 0x0B10 0 0 0) 4 ∧ vec [0x07] (l0 0x00F0 0 0 0) (l0 0x0000 0 0 0) 4 ∧
      vec [0x0F] (l0 0x3B00 0 0 0) (l0 0x9D10 0 0 0) 4 ∧ vec [0x17] (l0 0x9510 0 0 0) (l0 0x2B10 0 0 0) 4 ∧
      vec [0x17] (l0 0x8000 0 0 0) (l0 0x0010 0 0 0) 4 ∧ vec [0x1F] (l0 0x8100 0 0 0) (l0 0x4010 0 0 0) 4 ∧
      vec [0x1F] (l0 0x0110 0 0 0) (l0 0x8010 0 0 0) 4 ∧ vec [0xCB, 0x00] (l0 0 0x8500 0 0) (l0 0x0010 0x0B00 0 0) 8 ∧
      vec [0xCB, 0x07] (l0 0 0 0 0) (l0 0x0080 0 0 0) 8 ∧ vec [0xCB, 0x09] (l0 0 0x0001 0 0) (l0 0x0010 0x0080 0 0) 8 ∧
      vec [0xCB, 0x12] (l0 0 0 0x8000 0) (l0 0x0090 0 0 0) 8 ∧ vec [0xCB, 0x15] (l0 0x0010 0 0 0x0080) (l0 0x0010 0 0 1) 8 ∧
      vec [0xCB, 0x1B] (l0 0 0 0x0001 0) (l0 0x0090 0 0 0) 8 ∧ vec [0xCB, 0x1F] (l0 0x0010 0 0 0) (l0 0x8000 0 0 0) 8 ∧
      vec [0xCB, 0x24] (l0 0 0 0 0x8000) (l0 0x0090 0 0 0) 8 ∧ vec [0xCB, 0x27] (l0 0xFF00 0 0 0) (l0 0xFE10 0 0 0) 8 ∧
      vec [0xCB, 0x2F] (l0 0x8A00 0 0 0) (l0 0xC500 0 0 0) 8 ∧ vec [0xCB, 0x28] (l0 0 0x0100 0 0) (l0 0x0090 0 0 0) 8 ∧
      vec [0xCB, 0x37] (l0 0xF1F0 0 0 0) (l0 0x1F00 0 0 0) 8 ∧ vec [0xCB, 0x30] (l0 0 0 0 0) (l0 0x0080 0 0 0) 8 ∧
      vec [0xCB, 0x3F] (l0 0x0100 0 0 0) (l0 0x0090 0 0 0) 8 ∧
      vec [0xCB, 0x39] (l0 0 0x00FF 0 0) (l0 0x0010 0x007F 0 0) 8 := by decide

/-- RB23 to RB35. -/
theorem test_bit_and_memory_vectors :
    vec [0xCB, 0x7F] (l0 0x8010 0 0 0) (l0 0x8030 0 0 0) 8 ∧ vec [0xCB, 0x65] (l0 0 0 0 0x00EF) (l0 0x00A0 0 0 0x00EF) 8 ∧
      vec [0xCB, 0x40] (l0 0x00D0 0x0100 0 0) (l0 0x0030 0x0100 0 0) 8 ∧
      vec [0xCB, 0xBF] (l0 0xFFF0 0 0 0) (l0 0x7FF0 0 0 0) 8 ∧ vec [0xCB, 0x80] (l0 0 0x0100 0 0) (l0 0 0 0 0) 8 ∧
      vec [0xCB, 0xD9] (l0 0x00F0 0 0 0) (l0 0x00F0 0x0008 0 0) 8 ∧ vec [0xCB, 0xFB] (l0 0 0 0x80 0) (l0 0 0 0x80 0) 8 ∧
      vec [0xCB, 0x06] (l0 0 0 0 0xC000 0 [(0, 0x80)]) (l0 0x0010 0 0 0xC000 0 [(0, 0x01)]) 16 ∧
      vec [0xCB, 0x36] (l0 0 0 0 0xC000 0 [(0, 0xA5)]) (l0 0x0000 0 0 0xC000 0 [(0, 0x5A)]) 16 ∧
      vec [0xCB, 0x3E] (l0 0 0 0 0xC000 0 [(0, 0x01)]) (l0 0x0090 0 0 0xC000 0 []) 16 ∧
      vec [0xCB, 0x7E] (l0 0 0 0 0xC000 0 [(0, 0x7F)]) (l0 0x00A0 0 0 0xC000 0 [(0, 0x7F)]) 12 ∧
      vec [0xCB, 0xA6] (l0 0 0 0 0xC000 0 [(0, 0xFF)]) (l0 0 0 0 0xC000 0 [(0, 0xEF)]) 16 ∧
      vec [0xCB, 0xC6] (l0 0 0 0 0xC000 0 []) (l0 0 0 0 0xC000 0 [(0, 0x01)]) 16 := by decide

/-- CT1 to CT11. -/
theorem test_jump_vectors :
    vec [0xC3, 0x50, 0x01] (l0 0 0 0 0) (l0 0 0 0 0) 16 0x0150 ∧ vec [0xC2, 0x00, 0x20] (l0 0 0 0 0) (l0 0 0 0 0) 16 0x2000 ∧
      vec [0xC2, 0x00, 0x20] (l0 0x0080 0 0 0) (l0 0x0080 0 0 0) 12 0x0103 ∧
      vec [0xDA, 0x00, 0x20] (l0 0x0010 0 0 0) (l0 0x0010 0 0 0) 16 0x2000 ∧
      vec [0xE9] (l0 0 0 0 0x4000) (l0 0 0 0 0x4000) 4 0x4000 ∧ vec [0x18, 0x05] (l0 0 0 0 0) (l0 0 0 0 0) 12 0x0107 ∧
      vec [0x18, 0xFE] (l0 0 0 0 0) (l0 0 0 0 0) 12 0x0100 ∧ vec [0x18, 0x80] (l0 0 0 0 0) (l0 0 0 0 0) 12 0x0082 ∧
      vec [0x28, 0x7F] (l0 0x0080 0 0 0) (l0 0x0080 0 0 0) 12 0x0181 ∧
      vec [0x28, 0x7F] (l0 0 0 0 0) (l0 0 0 0 0) 8 0x0102 ∧ vec [0x30, 0x10] (l0 0 0 0 0) (l0 0 0 0 0) 12 0x0112 := by decide

/-- CT12 to CT20. -/
theorem test_call_return_vectors :
    vec [0xCD, 0x34, 0x12] (l0 0 0 0 0 0xFFFE) { l0 0 0 0 0 0xFFFC with hram := [(0x7C, 3), (0x7D, 1)] } 24 0x1234 ∧
      vec [0xCC, 0x34, 0x12] (l0 0 0 0 0 0xFFFE) (l0 0 0 0 0 0xFFFE) 12 0x0103 ∧
      vec [0xD4, 0x34, 0x12] (l0 0 0 0 0 0xFFFE) { l0 0 0 0 0 0xFFFC with hram := [(0x7C, 3), (0x7D, 1)] } 24 0x1234 ∧
      vec [0xC9] (l0 0 0 0 0 0xC000 [(0, 0x78), (1, 0x56)]) (l0 0 0 0 0 0xC002 [(0, 0x78), (1, 0x56)]) 16 0x5678 ∧
      vec [0xC8] (l0 0x80 0 0 0 0xC000 [(0, 0x78), (1, 0x56)]) (l0 0x80 0 0 0 0xC002 [(0, 0x78), (1, 0x56)]) 20 0x5678 ∧
      vec [0xC8] (l0 0 0 0 0 0xC000 [(0, 0x78), (1, 0x56)]) (l0 0 0 0 0 0xC000 [(0, 0x78), (1, 0x56)]) 8 0x0101 ∧
      vec [0xD9] (l0 0 0 0 0 0xC000 [(0, 0x78), (1, 0x56)])
        { l0 0 0 0 0 0xC002 [(0, 0x78), (1, 0x56)] with ime := true } 16 0x5678 ∧
      vec [0xEF] (l0 0 0 0 0 0xFFFE) { l0 0 0 0 0 0xFFFC with hram := [(0x7C, 1), (0x7D, 1)] } 16 0x0028 ∧
      vec [0xC7] (l0 0 0 0 0 0xD000) (l0 0 0 0 0 0xCFFE [(0xFFE, 1), (0xFFF, 1)]) 16 0x0000 := by decide

/-- SY1 to SY3, SY5 to SY7; nop2 reads and drops the byte at 0x0101. -/
theorem test_system_vectors :
    vec [0x00] (l0 0xF0 0 0 0) (l0 0xF0 0 0 0) 4 ∧ vec [0xFB] (l0 0 0 0 0) { l0 0 0 0 0 with imePending := true } 4 ∧
      vec [0xF3] { l0 0 0 0 0 with ime := true, imePending := true } (l0 0 0 0 0) 4 ∧
      vec [0x76] (l0 0 0 0 0) { l0 0 0 0 0 with halted := true } 4 ∧ vec [0x10] (l0 0 0 0 0) (l0 0 0 0 0) 4 ∧
      (let s := { l0 0 0 0 0 with cfg := { Config.atReset with stopMode := .nop2 } }
       vec [0x10] s s 8 0x0102) := by decide

/-- SY8, SY9 and the CB prefix (R375) fetched in its two halves. -/
theorem test_stop_refused_illegal_and_prefix :
    (match exec .stop { l0 0 0 0 0 with cfg := { Config.atReset with stopMode := .refuse } } with
      | .refused r => decide (r = .stopRefused)
      | _ => false) = true ∧
      vec [0xD3] { l0 0x1230 0 0 0 0xD000 with cycTotal := 4 }
        { l0 0x1230 0 0 0 0xD000 with
          cycTotal := 4
          fault := true
          snapshot := { regs := (l0 0x1230 0 0 0).regs, pc := 0x0101, sp := 0xD000, cycTotal := 4 } } 4 ∧
      vec [0xCB] { l0 0x0100 0 0 0 with rom := { buf := [(0x101, 0x37)], current := 1 } }
        { l0 0x1000 0 0 0 with rom := { buf := [(0x101, 0x37)], current := 1 } } 8 0x0102 := by decide

/-! ## Bus, registers, mappers -/

/-- MM1 to MM9. -/
theorem test_memory_map_vectors :
    (let s := l0 0 0 0 0 0 [(0, 0x5A)]
     busRead 0xE000 s = 0x5A ∧ (busWrite 0xFD00 0x77 s).wram.buf = [(0, 0x5A), (0x1D00, 0x77)] ∧
       busRead 0xDD00 (busWrite 0xFD00 0x77 s) = 0x77 ∧ busRead 0xFEA0 s = 0xFF ∧ busWrite 0xFEA0 0x12 s = s ∧
       busRead 0xA000 s = 0xFF ∧ busWrite 0xA000 0x12 s = s ∧ busWrite 0x2000 0x55 s = s ∧
       busRead 0xFFFF (busWrite 0xFFFF 0xFF s) = 0x1F ∧ busRead 0xFF0F (busWrite 0xFF0F 0x00 s) = 0xE0 ∧
       busRead 0xFF10 s = 0xFF ∧ busWrite 0xFF10 0x12 s = s ∧ busRead 0xFF80 (busWrite 0xFF80 0x9C s) = 0x9C ∧
       busRead 0xFFFE (busWrite 0xFFFE 0x9C s) = 0x9C) := by decide

/-- T3: JoyHeld = 0x91 (Start, A, Right held). -/
theorem test_p1_vectors :
    (let s := { l0 0 0 0 0 with joyInputs := [{ edge := false, held := 0x91 }] }
     ([0x20, 0x10, 0x30, 0x00].map fun v => busRead 0xFF00 (busWrite 0xFF00 v s)) = [0xEE, 0xD6, 0xFF, 0xC6]) := by decide

/-- A machine with this mapper, ROM of `banks` banks and 32 KB of RAM; bank 3 of the ROM marked. -/
def cart (m : Mapper) (banks : Nat) : State :=
  { l0 0 0 0 0 with
    mapper := m
    rom := { buf := [(3 * 0x4000 + 0x10, 0x33)], current := 1 }
    cfg := { Config.atReset with romBankCount := banks, cartRamSize := .kb32 } }

/-- MBC1 after reset. -/
def mbc1Reset : Mapper := .mbc1 { ramEnabled := false, romBank := 1, secBank := 0, bankingMode := false }

/-- MBC3 after reset. -/
def mbc3Reset : Mapper := .mbc3 { ramEnabled := false, romBank := 1, secBank := 0 }

/-- M1: MBC1 with 4 banks, the bank at 0x4000 for each byte written to 0x2000. -/
theorem test_mbc1_rom_bank_vectors :
    (([0x00, 0x02, 0x03, 0x04, 0x05, 0x20, 0x1F] : List Byte).map fun v =>
        (busWrite 0x2000 v (cart mbc1Reset 4)).rom.current) = [1, 2, 3, 0, 1, 1, 3] ∧
      busRead 0x4010 (busWrite 0x2000 0x03 (cart mbc1Reset 4)) = 0x33 := by decide

/-- M2: both banking modes, the RAM gate, and where the byte is stored. -/
theorem test_mbc1_mode_vectors :
    (let s := busWrite 0x4000 0x01 (busWrite 0x2000 0x01 (cart mbc1Reset 64))
     let t := busWrite 0x6000 0x01 s
     let u := busWrite 0xA000 0x77 (busWrite 0x0000 0x0A t)
     s.rom.current = 33 ∧ s.cartRam.current = 0 ∧ t.rom.current = 1 ∧ t.cartRam.current = 1 ∧ busRead 0xA000 t = 0xFF ∧
       busRead 0xA000 u = 0x77 ∧ u.cartRam.buf = [(0x2000, 0x77)] ∧ busRead 0xA000 (busWrite 0x0000 0x00 u) = 0xFF) := by
  decide

/-- M3: MBC3 with 128 banks. -/
theorem test_mbc3_vectors :
    (([0x00, 0x01, 0x7F, 0x80, 0xFF, 0x20] : List Byte).map fun v =>
        (busWrite 0x2000 v (cart mbc3Reset 128)).rom.current) = [1, 1, 127, 1, 127, 32] ∧
      (let u := busWrite 0xA000 0x55 (busWrite 0x4000 0x02 (busWrite 0x0000 0x0A (cart mbc3Reset 128)))
       u.cartRam.buf = [(0x4000, 0x55)] ∧ (busWrite 0x4000 0x0A u).cartRam.current = 2 ∧ busWrite 0x6000 0x01 u = u ∧
         busRead 0xA000 (busWrite 0x0000 0x00 u) = 0xFF) := by decide

/-- M4 and M5: the two RAM-enable policies, and 2 KB of RAM not mirrored. -/
theorem test_ram_enable_vectors :
    (let latches (p : RamEnPolicy) : List Bool :=
      (([0x0A, 0x00, 0x0A, 0x1A, 0x0B] : List Byte).foldl
        (fun (acc : List Bool × Bool) v =>
          let e := ramEnableWrite p acc.2 v
          (acc.1 ++ [e], e)) ([], false)).1
     latches .setClear = [true, false, true, true, false] ∧ latches .toggle = [true, true, false, true, true]) ∧
      (let s := { busWrite 0 0x0A (cart mbc1Reset 4) with cfg := { Config.atReset with romBankCount := 4, cartRamSize := .kb2 } }
       busRead 0xA7FF (busWrite 0xA7FF 0x12 s) = 0x12 ∧ busWrite 0xA800 0x34 s = s ∧ busRead 0xA800 s = 0xFF) := by decide

/-! ## Steps: interrupts, PPU, timer, DMA -/

/-- The state a step gives, `State.reset` where it gives none. -/
def after (s : State) : State :=
  match step s with
  | .next t => t
  | _ => State.reset

/-- X1: a NOP at 0x0100, all five sources pending; VBlank is entered and only its bit cleared. -/
theorem test_interrupt_priority_vector :
    (let t := after { l0 0 0 0 0 0xFFFE with ime := true, ie := 0x1F, ifReg := 0x1F }
     t.pc = 0x0040 ∧ t.ifReg = 0x1E ∧ t.ime = false ∧ t.sp = 0xFFFC ∧ t.hram = [(0x7C, 1), (0x7D, 1)] ∧
       t.stepCycles = 24) := by decide

/-- X2 and X5: EI does not let the pending interrupt in; HALT with one pending and IME 0 wakes in its own step. -/
theorem test_ei_delay_and_halt_vectors :
    (let t := after { l0 0 0 0 0 0xFFFE with ie := 1, ifReg := 1, rom := { buf := [(0x100, 0xFB)], current := 1 } }
     t.pc = 0x0101 ∧ t.ime = false ∧ t.imePending = true ∧ t.ifReg = 1 ∧ t.stepCycles = 4) ∧
      (let t := after { l0 0 0 0 0 with ie := 1, ifReg := 1, rom := { buf := [(0x100, 0x76)], current := 1 } }
       t.halted = false ∧ t.pc = 0x0101 ∧ t.stepCycles = 4) := by decide

/-- X4 and X6: a halted core woken with IME 1, and a joypad edge taken in its own step. -/
theorem test_wake_and_joypad_vectors :
    (let t := after { l0 0 0 0 0 0xFFFE with pc := 0x0101, ime := true, halted := true, ie := 1, ifReg := 1 }
     t.pc = 0x0040 ∧ t.halted = false ∧ t.ifReg = 0 ∧ t.hram = [(0x7C, 1), (0x7D, 1)] ∧ t.stepCycles = 24) ∧
      (let t := after { l0 0 0 0 0 0xFFFE with
          pc := 0x0101, ime := true, ie := 0x10, joyInputs := [{ edge := true, held := 1 }] }
       t.pc = 0x0060 ∧ t.ifReg = 0 ∧ t.hram = [(0x7C, 2), (0x7D, 1)] ∧ t.joyInputs = []) := by decide

/-- S8, V1: 456 dots make a line; line 144 requests VBlank; line 153 completes the frame. -/
theorem test_ppu_line_vectors :
    (let on := busWrite 0xFF40 0x91 (l0 0 0 0 0)
     (ppuAdvance 79 on).ppu.mode = .oamScan ∧ (ppuAdvance 80 on).ppu.mode = .pixelPut ∧
       (let v := ppuAdvance 204 { on with ppu := { on.ppu with mode := .hBlank, ly := 143 } }
        v.ppu.mode = .vBlank ∧ v.ppu.ly = 144 ∧ v.ifReg = 1) ∧
       (let f := ppuAdvance 456 { on with ppu := { on.ppu with mode := .vBlank, ly := 153 } }
        f.frameValid = true ∧ f.ppu.mode = .oamScan ∧ f.ppu.ly = 0)) := by decide

/-- The state of V7: tile 1 row 0 is 3C 7E, tile 2 row 0 is FF 00, map entry 0 is tile 1, one sprite. -/
def picture (attr : Byte) : State :=
  { l0 0 0 0 0 with
    vram := { buf := [(0x10, 0x3C), (0x11, 0x7E), (0x20, 0xFF), (0x1800, 0x01)], current := 0 }
    oam := (Memory.ofBytes [0x10, 0x0A, 0x02, attr])
    ppu := { Ppu.reset with lcdc := 0x93, bgp := 0xE4, obp0 := 0xE4, obp1 := 0x1B, mode := .pixelPut, lineSprites := [0] } }

/-- PX1 to PX3: the first ten shades of line 0. -/
theorem test_compositor_vectors :
    ((List.range 10).map fun x => linePixel x 0 (picture 0x00)) = [0, 2, 1, 1, 1, 1, 1, 1, 1, 1] ∧
      ((List.range 10).map fun x => linePixel x 0 (picture 0x80)) = [0, 2, 3, 3, 3, 3, 2, 1, 1, 1] ∧
      ((List.range 10).map fun x => linePixel x 0 (picture 0x10)) = [0, 2, 2, 2, 2, 2, 2, 2, 2, 2] := by decide

/-- T2, and one DMA byte for each 4 cycles (P5's step 2). -/
theorem test_timer_and_dma_vectors :
    (let s := { l0 0 0 0 0 with
        cfg := { Config.atReset with timerMode := .full }, timer := { div := 0, tima := 0xFE, tma := 0x40, tac := 0x05 } }
     (timerAdvance 16 s).timer.tima = 0xFF ∧ (timerAdvance 32 s).timer.tima = 0x40 ∧ (timerAdvance 32 s).ifReg = 0b00100 ∧
       (timerAdvance 48 s).timer.tima = 0x41) ∧
      (let s := busWrite 0xFF46 0xC1 (l0 0 0 0 0 0 [(0x100, 7), (0x101, 8), (0x102, 9), (0x103, 10)])
       (dmaAdvance 12 s).oam = [(0, 7), (1, 8), (2, 9)] ∧ (dmaAdvance 12 s).dma.index = 3 ∧
         busRead 0xC100 s = 0xFF ∧ (dmaAdvance 12 s).dma.active = true) := by decide

/-- The host's placing: the step after it runs the placed instruction from the reset state. -/
theorem test_withFetchWord :
    (after (State.reset.withFetchWord 16 0x7F3E)).regs.a = 0x7F ∧
      (after (State.reset.withFetchWord 16 0xCBFF)).regs.a = 0x80 ∧
      (after (State.reset.withFetchWord 8 0x76)).halted = true ∧
      (after (State.reset.withFetchWord 8 0xDD)).fault = true := by decide

/-! ## Witnesses: states and operands that meet the hypotheses of the statements -/

/-- DecodeOfEncode: an instruction with operands before other bytes, the marker alone. -/
theorem test_witness_DecodeOfEncode :
    (Instr.jp_a16 0xFFFF).wellFormed = true ∧ (Instr.illegal 0xFD).wellFormed = true ∧ Instr.cbPrefix.wellFormed = true ∧
      (Instr.jp_a16 0xFFFF = .cbPrefix → ([0x12] : List Byte) = []) ∧ (Instr.cbPrefix = .cbPrefix → ([] : List Byte) = []) := by
  decide

theorem test_witness_EncodeOfDecode : decode [0xC3, 0x50, 0x01, 0x99] = .instr (.jp_a16 0x0150) [0x99] := by decide

/-- The program bytes the step witnesses run: at 0x0100 of the cartridge ROM. -/
def program (bytes : List Byte) (s : State) : State :=
  { s with rom := { buf := Sparse.ofValues Memory.unlisted 0x100 bytes, current := 1 } }

/-- StepRunsDecodedInstruction: one, two and three bytes. -/
theorem test_witness_StepRunsDecodedInstruction :
    (([[0x3C, 0, 0], [0xCB, 0x37, 0], [0xC3, 0x50, 0x01]] : List (List Byte)).all fun bs =>
      let s := program bs (l0 0 0 0 0)
      let q := beforeInstruction s
      !s.fault && !s.halted &&
        (match decode [busRead q.pc q, busRead (q.pc + 1) q, busRead (q.pc + 2) q] with
          | .instr _ rest => decide (rest.length = 3 - lengthOfOpcode (bs.getD 0 0))
          | .rejected _ => false)) = true := by decide

/-- HaltedStep: no pending source; one with IME 0; the first and the last source with IME 1. -/
theorem test_witness_HaltedStep :
    (let s := { l0 0 0 0 0 with halted := true }
     let q := beforeInstruction s
     s.fault = false ∧ s.halted = true ∧ q.ie &&& q.ifReg = 0) ∧
      (let q := beforeInstruction { l0 0 0 0 0 with halted := true, ie := 1, ifReg := 1 }
       q.ie &&& q.ifReg ≠ 0 ∧ q.ime = false) ∧
      (([0, 4] : List Nat).all fun k =>
        let q := beforeInstruction { l0 0 0 0 0 with halted := true, ime := true, ie := 1#5 <<< k, ifReg := 0b11111 }
        let p := q.ie &&& q.ifReg
        decide (k < 5) && p.getLsbD k && (List.range k).all (fun j => !p.getLsbD j) && q.ime) = true := by decide

/-- IllegalOpcode: the first and the last undefined byte, and a state with the fault taken. -/
theorem test_witness_IllegalOpcode :
    (([0xD3, 0xFD] : List Byte).all fun op =>
      let s := program [op] (l0 0 0 0 0)
      let q := beforeInstruction s
      !s.fault && !s.halted && undefinedOpcodes.contains (busRead q.pc q)) = true ∧
      ({ l0 0 0 0 0 with fault := true } : State).fault = true := by decide

/-- EveryInstructionRuns and StopByMode: each mode of STOP, and another instruction under `refuse`. -/
theorem test_witness_EveryInstructionRuns_StopByMode :
    (let mode (m : StopMode) : State := { l0 0 0 0 0 with cfg := { Config.atReset with stopMode := m } }
     (Instr.stop ≠ .stop ∨ (mode .nop1).cfg.stopMode ≠ .refuse) ∧ (Instr.nop ≠ .stop ∨ (mode .refuse).cfg.stopMode ≠ .refuse) ∧
       (mode .refuse).cfg.stopMode = .refuse ∧ (mode .nop1).cfg.stopMode = .nop1 ∧ (mode .nop2).cfg.stopMode = .nop2) := by
  decide

/-- ControlStateWrittenOnlyBy: each control bit changed by an instruction that may. -/
theorem test_witness_ControlStateWrittenOnlyBy :
    (∃ t, exec .reti (l0 0 0 0 0) = .next t ∧ t.ime ≠ (l0 0 0 0 0).ime) ∧
      (∃ t, exec .di { l0 0 0 0 0 with ime := true } = .next t ∧ t.ime ≠ true) ∧
      (∃ t, exec .ei (l0 0 0 0 0) = .next t ∧ t.imePending ≠ (l0 0 0 0 0).imePending) ∧
      (∃ t, exec .halt (l0 0 0 0 0) = .next t ∧ t.halted ≠ (l0 0 0 0 0).halted) ∧
      (∃ t, exec (.illegal 0xD3) (l0 0 0 0 0) = .next t ∧ t.fault ≠ (l0 0 0 0 0).fault) :=
  ⟨⟨_, rfl, by decide⟩, ⟨_, rfl, by decide⟩, ⟨_, rfl, by decide⟩, ⟨_, rfl, by decide⟩, ⟨_, rfl, by decide⟩⟩

/-- StoreToMemory, IncrementAndDecrement8, RotateMemory, BitResetAndSet, PushRegisterPair, Calls, Load16: a canonical memory, a byte
the store may touch and one it may not, at the ends of the regions of `writeTouches`. -/
theorem test_witness_store_frames :
    (let s := l0 0 0 0 0xC000 0xD000 [(0, 1)]
     Memory.wf s.rom.buf ∧ Memory.wf s.bootRom ∧ Memory.wf s.vram.buf ∧ Memory.wf s.cartRam.buf ∧ Memory.wf s.wram.buf ∧
       Memory.wf s.oam ∧ Memory.wf s.hram ∧ Framebuffer.wf s.ppu.fb) ∧
      writeTouches 0xC000 0xC000 = true ∧ writeTouches 0xC000 0xE000 = true ∧ writeTouches 0xC000 0xC001 = false ∧
      writeTouches 0xDFFF 0xFDFF = false ∧ writeTouches 0x0000 0x3FFF = false ∧ writeTouches 0x7FFF 0x4000 = true ∧
      writeTouches 0x0000 0xBFFF = true ∧ writeTouches 0x0000 0xC000 = false ∧ writeTouches 0xFF40 0xFF44 = true ∧
      writeTouches 0xFF45 0xFF41 = true ∧ writeTouches 0xFF50 0x00FF = true ∧ writeTouches 0xFF50 0x0100 = false ∧
      writeTouches 0xFEA0 0xFEA0 = false ∧ writeTouches 0xFFFF 0xFFFE = false := by decide

/-- Jumps, Calls, Returns: every condition taken and not taken. -/
theorem test_witness_conditions :
    taken .nz (l0 0x0000 0 0 0) = true ∧ taken .nz (l0 0x0080 0 0 0) = false ∧ taken .z (l0 0x0080 0 0 0) = true ∧
      taken .z (l0 0x0000 0 0 0) = false ∧ taken .nc (l0 0x0000 0 0 0) = true ∧ taken .nc (l0 0x0010 0 0 0) = false ∧
      taken .c (l0 0x0010 0 0 0) = true ∧ taken .c (l0 0x0000 0 0 0) = false := by decide

/-- PushThenPop: SP inside work RAM, at its lower end, and inside high RAM. -/
theorem test_witness_PushThenPop :
    (([0xD000, 0xC002, 0xFFFF, 0xFF82] : List Word).all fun sp =>
      let s := l0 0x12F0 0 0 0 sp
      plainRam (s.sp - 1) s && plainRam (s.sp - 2) s) = true ∧ flagNibbleClear (l0 0x12F0 0 0 0) ∧
      memoriesWf (l0 0x12F0 0 0 0) := by
  refine ⟨by decide, rfl, ?_⟩
  unfold memoriesWf; decide

/-- AddWithAndWithoutCarry, SubtractAndCompare, LogicOperations: every operation named. -/
theorem test_witness_alu_operations :
    (AluOp.add = .add ∨ AluOp.add = .adc) ∧ (AluOp.adc = .add ∨ AluOp.adc = .adc) ∧
      (∀ op ∈ [AluOp.sub, .sbc, .cp], op = .sub ∨ op = .sbc ∨ op = .cp) ∧
      (∃ g : Bool → Bool → Bool, AluOp.and = .and ∧ g = fun p q => p && q) ∧
      (∃ g : Bool → Bool → Bool, AluOp.xor = .xor ∧ g = fun p q => p != q) ∧
      ∃ g : Bool → Bool → Bool, AluOp.or = .or ∧ g = fun p q => p || q :=
  ⟨by decide, by decide, by decide, ⟨_, rfl, rfl⟩, ⟨_, rfl, rfl⟩, ⟨_, rfl, rfl⟩⟩

/-- DecimalAdjustAfterAddition: 99 + 01. -/
theorem test_witness_DecimalAdjustAfterAddition :
    (l0 0x9900 0x0100 0 0).regs.a = BitVec.ofNat 8 (16 * (9 : Fin 10).val + (9 : Fin 10).val) ∧
      (l0 0x9900 0x0100 0 0).regs.b = BitVec.ofNat 8 (16 * (0 : Fin 10).val + (1 : Fin 10).val) := by decide

/-- ResolveInterrupts: nothing pending; pending with IME 0; the first and the last source with IME 1. -/
theorem test_witness_ResolveInterrupts :
    (l0 0 0 0 0).ie &&& (l0 0 0 0 0).ifReg = 0 ∧
      (let s := { l0 0 0 0 0 with ie := 0x10, ifReg := 0x10 }
       s.ie &&& s.ifReg ≠ 0 ∧ s.ime = false ∧ s.imePending = false) ∧
      (([0, 4] : List Nat).all fun k =>
        let s := { l0 0 0 0 0 with ime := true, ie := 1#5 <<< k, ifReg := 0b11111 }
        let p := s.ie &&& s.ifReg
        decide (k < 5) && p.getLsbD k && (List.range k).all (fun j => !p.getLsbD j) && s.ime) = true := by decide

/-- EI with IME already 1 in a step that enters an interrupt (R373, R412): the entry is taken, IME is 0, and the latch is the
free value of log entry 22. -/
theorem test_ei_with_ime_set :
    ∃ t, step (program [0xFB] { l0 0 0 0 0 with ime := true, ie := 1, ifReg := 1 }) = .next t ∧
      t.pc = 0x0040 ∧ t.ime = false ∧ t.imePending = Config.entryKeepsImePending :=
  ⟨_, rfl, rfl, rfl, rfl⟩

/-- SystemInstructions: IME 1 and IME 0. -/
theorem test_witness_SystemInstructions :
    ({ l0 0 0 0 0 with ime := true } : State).ime = true ∧ (l0 0 0 0 0).ime = false := by decide

theorem test_witness_EnableInterruptsIsDeferred :
    (let s := program [0xFB] { l0 0 0 0 0 with ie := 0x1F, ifReg := 0x1F }
     let q := beforeInstruction s
     s.fault = false ∧ s.halted = false ∧ s.ime = false ∧ s.imePending = false ∧ busRead q.pc q = 0xFB) := by decide

/-- BusWriteEffect: each region at its first and last address. -/
theorem test_witness_BusWriteEffect :
    (([0xC000, 0xDFFF, 0xE000, 0xFDFF, 0xFF80, 0xFFFE] : List Word).all fun a => plainRam a (l0 0 0 0 0)) = true ∧
      (let s := { cart mbc1Reset 4 with
          mapper := .mbc1 { ramEnabled := true, romBank := 1, secBank := 0, bankingMode := false } }
       (([0x8000, 0x9FFF, 0xA000, 0xBFFF, 0xFE00, 0xFE9F] : List Word).all fun a =>
         !dmaMasks a s &&
           (match regionOf a with
             | .vram _ => !vramLocked s
             | .oam _ => !oamLocked s
             | .cartRam off =>
               ramEnabled s && s.cfg.cartRamSize != .none && decide (off < CartRamSize.bankSize s.cfg.cartRamSize)
             | _ => false)) = true) := by decide

/-- CpuAccessCostAndMasks: both ends of each masked and locked range, and their neighbours outside. -/
theorem test_witness_CpuAccessCostAndMasks :
    (let masked (a : Word) (s : State) : Bool := s.dma.active && decide (a.toNat < 0xFF00)
     let locked (a : Word) (s : State) : Bool :=
      (decide (0x8000 ≤ a.toNat) && decide (a.toNat < 0xA000) && s.ppu.mode == .pixelPut) ||
        (decide (0xFE00 ≤ a.toNat) && decide (a.toNat < 0xFEA0) && (s.ppu.mode == .oamScan || s.ppu.mode == .pixelPut))
     let s := l0 0 0 0 0
     let dma := { s with dma := { reg := 0xC1, active := true, index := 0 } }
     let drawing := { s with ppu := { s.ppu with mode := .pixelPut } }
     let scanning := { s with ppu := { s.ppu with mode := .oamScan } }
     masked 0x0000 dma ∧ masked 0xFEFF dma ∧ !masked 0xFF00 dma ∧ locked 0x8000 drawing ∧ locked 0x9FFF drawing ∧
       !locked 0x7FFF drawing ∧ !locked 0xA000 drawing ∧ locked 0xFE00 scanning ∧ locked 0xFE9F drawing ∧
       !locked 0xFEA0 drawing ∧ !locked 0x8000 scanning ∧ !masked 0x8000 s) := by decide

/-- UncoveredAndEchoAddresses: the ends of both ranges and a gap between registers. -/
theorem test_witness_UncoveredAndEchoAddresses :
    (([0xFEA0, 0xFEFF] : List Word).all fun a => decide (0xFEA0 ≤ a.toNat) && decide (a.toNat < 0xFF00)) = true ∧
      (([0xFF01, 0xFF03, 0xFF51, 0xFF7F] : List Word).all fun a =>
        decide (0xFF00 ≤ a.toNat) && decide (a.toNat < 0xFF80) &&
          !([0xFF00, 0xFF04, 0xFF05, 0xFF06, 0xFF07, 0xFF0F, 0xFF40, 0xFF41, 0xFF42, 0xFF43, 0xFF44, 0xFF45, 0xFF46, 0xFF47,
            0xFF48, 0xFF49, 0xFF4A, 0xFF4B, 0xFF50].contains a.toNat)) = true ∧ (0x1DFF : Nat) < 0x1E00 := by decide

/-- MapperCommands: each quarter of the area at both ends, under each mapper. -/
theorem test_witness_MapperCommands :
    (([mbc1Reset, mbc3Reset, .noMapper] : List Mapper).all fun m => !(cart m 4).dma.active) = true ∧
      (([0x0000, 0x1FFF, 0x2000, 0x3FFF, 0x4000, 0x5FFF, 0x6000, 0x7FFF] : List Word).map fun a => a.toNat / 0x2000) =
        [0, 0, 1, 1, 2, 2, 3, 3] := by decide

/-- CartridgeReads: the overlay on and off, each bank area and the RAM window open and closed, at their ends. -/
theorem test_witness_CartridgeReads :
    (let opened := { cart mbc1Reset 4 with
        mapper := .mbc1 { ramEnabled := true, romBank := 1, secBank := 0, bankingMode := false } }
     State.reset.bootEnabled = true ∧ opened.bootEnabled = false ∧ opened.mapper ≠ .noMapper ∧
       (cart .noMapper 2).mapper = .noMapper ∧ (0xFF : Nat) < 0x100 ∧ ramEnabled opened = true ∧
       opened.cfg.cartRamSize ≠ .none ∧ 0xBFFF - 0xA000 < CartRamSize.bankSize opened.cfg.cartRamSize ∧
       ramEnabled (cart mbc1Reset 4) = false) := by decide

/-- LcdSwitch: both edges, no edge, and the budget at, above and below the step. -/
theorem test_witness_LcdSwitch :
    (let s := l0 0 0 0 0
     s.ppu.lcdc.getLsbD 7 = false ∧ (busWrite 0xFF40 0x80 s).ppu.lcdc.getLsbD 7 = true ∧ ¬s.ppu.offBudget ≤ (4 : Nat) ∧
       ({ s with ppu := { s.ppu with offBudget := 4 } } : State).ppu.offBudget ≤ (4 : Nat)) := by decide

/-- A PPU that is on, in a mode at a dot of a line. -/
def ppuAt (mode : PpuMode) (ly : Byte) (dot : Nat) : State :=
  { l0 0 0 0 0 with ppu := { Ppu.reset with lcdc := 0x91, mode := mode, ly := ly, dot := dot } }

/-- PpuModeTransitions: for each clause a state and a number of dots at the first and at the last total it covers. -/
theorem test_witness_PpuModeTransitions :
    (([(ppuAt .oamScan 0 75, 4), (ppuAt .pixelPut 143 167, 4), (ppuAt .hBlank 0 199, 4), (ppuAt .vBlank 153 451, 4)] :
        List (State × Nat)).all fun p =>
      p.1.ppu.lcdc.getLsbD 7 && decide (p.1.ppu.dot + p.2 < modeLength p.1.ppu.mode p.1.ppu.spriteExtra)) = true ∧
      (([(ppuAt .oamScan 0 76, 4, 80, 252), (ppuAt .oamScan 143 79, 172, 80, 252), (ppuAt .pixelPut 0 168, 4, 172, 376),
          (ppuAt .pixelPut 143 171, 204, 172, 376), (ppuAt .hBlank 0 200, 4, 204, 284),
          (ppuAt .hBlank 143 203, 80, 204, 284), (ppuAt .vBlank 144 452, 4, 456, 536),
          (ppuAt .vBlank 153 455, 80, 456, 536)] : List (State × Nat × Nat × Nat)).all fun p =>
        p.1.ppu.lcdc.getLsbD 7 && decide (p.2.2.1 ≤ p.1.ppu.dot + p.2.1) && decide (p.1.ppu.dot + p.2.1 < p.2.2.2) &&
          decide (p.1.ppu.spriteExtra = 0) && decide (p.1.ppu.ly.toNat < 154)) = true := by decide

/-- PpuTimeIsAdditive, LineAndFrameLength: a PPU in range, on, at dot 0 of OAMScan of line 0. -/
theorem test_witness_PpuTimeIsAdditive_LineAndFrameLength :
    ppuInRange (ppuAt .oamScan 0 0) ∧ (ppuAt .oamScan 0 0).ppu.lcdc.getLsbD 7 = true ∧
      (ppuAt .oamScan 0 0).ppu.mode = .oamScan ∧ (ppuAt .oamScan 0 0).ppu.dot = 0 ∧ (ppuAt .oamScan 0 0).ppu.ly = 0 ∧
      (ppuAt .oamScan 0 0).frameValid = false := by
  refine ⟨?_, by decide, rfl, rfl, rfl, rfl⟩
  unfold ppuInRange; decide

/-- SpriteSelection: sprites off, sprites on, a covering entry left out behind ten. -/
theorem test_witness_SpriteSelection :
    (ppuAt .oamScan 0 0).ppu.lcdc.getLsbD 1 = false ∧ (picture 0).ppu.lcdc.getLsbD 1 = true ∧
      selectSprites 0 (picture 0) = [0] ∧
      (let s := { picture 0 with oam := Memory.ofBytes ((List.replicate 11 [0x10, 8, 2, 0]).flatten) }
       selectSprites 0 s = [0, 1, 2, 3, 4, 5, 6, 7, 8, 9] ∧ spriteOnLine 0 10 s = true) := by decide

/-- RenderLineIsTheSpecLoop: a canonical framebuffer, the last column, another line. -/
theorem test_witness_RenderLineIsTheSpecLoop :
    Framebuffer.wf (picture 0).ppu.fb ∧ (159 : Nat) < 160 ∧ (143 : Nat) ≠ 0 := by decide

/-- The painting order of the line's sprites under both values of OBJ_DRAW_ORDER (R462). -/
theorem test_sprite_order :
    (let s (o : ObjDrawOrder) : State :=
      { l0 0 0 0 0 with ppu := { Ppu.reset with lineSprites := [3, 7] }, cfg := { Config.atReset with objDrawOrder := o } }
     (spriteOrder (s .ascending), spriteOrder (s .descending))) = ([3, 7], [7, 3]) := by decide

/-- The four stored shades show as the default colours of R7. -/
theorem test_output_colours :
    (let s := { l0 0 0 0 0 with ppu := { Ppu.reset with fb := [(161, 1), (162, 2), (163, 3)] } }
     [fbPixel 0 1 s, fbPixel 1 1 s, fbPixel 2 1 s, fbPixel 3 1 s]) = [0xFFFFFFFF, 0xFFAAAAAA, 0xFF555555, 0xFF000000] := by
  decide

/-- BackgroundAndWindowPixel: the last column and line, LCDC bit 0 set and clear. -/
theorem test_witness_BackgroundAndWindowPixel :
    (159 : Nat) < 160 ∧ (143 : Nat) < 144 ∧ (picture 0).ppu.lcdc.getLsbD 0 = true ∧
      (l0 0 0 0 0).ppu.lcdc.getLsbD 0 = false := by decide

/-- TimerAdvance: reference; full but stopped; full and counting to 0xFF and past it. -/
theorem test_witness_TimerAdvance :
    (let full := { l0 0 0 0 0 with
        cfg := { Config.atReset with timerMode := .full }, timer := { div := 0, tima := 0xFE, tma := 0, tac := 5 } }
     (l0 0 0 0 0).cfg.timerMode = .reference ∧ full.cfg.timerMode = .full ∧ full.timer.tac.getLsbD 2 = true ∧
       full.timer.tima.toNat + ((0 + 16) / 16 - 0 / 16) < 256 ∧ full.timer.tima.toNat + ((0 + 32) / 16 - 0 / 16) = 256) := by
  decide

/-- DmaCopiesTheBlock: the whole block, the last byte, one byte left with 12 cycles, none left, and an inactive engine. -/
theorem test_witness_DmaCopiesTheBlock :
    memoriesWf (l0 0 0 0 0 0 [(0, 1)]) ∧ (l0 0 0 0 0).dma.active = false ∧
      (let at_ (i : Nat) : State := { l0 0 0 0 0 with dma := { reg := 0xC1, active := true, index := i } }
       (at_ 0).dma.active = true ∧ (at_ 0).dma.index ≤ 160 ∧ min (640 / 4) (160 - (at_ 0).dma.index) = 160 ∧
         (at_ 159).dma.index ≤ 160 ∧ min (4 / 4) (160 - (at_ 159).dma.index) = 1 ∧
         min (12 / 4) (160 - (at_ 159).dma.index) = 1 ∧ (at_ 160).dma.index ≤ 160 ∧
         min (12 / 4) (160 - (at_ 160).dma.index) = 0) := by
  refine ⟨?_, by decide⟩
  unfold memoriesWf; decide

/-- The parameters of the smallest machine: 32 KB of zeros, a boot ROM of zeros. -/
def smallest : LaunchParams :=
  { cartRom := List.replicate 0x8000 0
    bootRom := List.replicate 256 0
    cartRamInit := []
    initRam := 0
    timerMode := .reference
    stopMode := .nop1
    spritePenaltyDots := 6
    objDrawOrder := .ascending
    shadeColor := ShadeColors.default
    mbcRamenPolicy := .setClear
    joyInputs := [] }

/-- LaunchFromTheHeader: parameters that meet the condition, and a boot ROM of 255 bytes that does not. -/
theorem test_witness_LaunchFromTheHeader :
    smallest.bootRom.length = 256 ∧ smallest.cartRom.length % 0x4000 = 0 ∧ 0x8000 ≤ smallest.cartRom.length ∧
      smallest.cartRom.length = 0x8000 ∧ smallest.cartRom.getD 0x147 0 = 0 ∧ smallest.cartRom.getD 0x149 0 = 0 ∧
      smallest.cartRamInit.length = 0 ∧ { smallest with bootRom := List.replicate 255 0 }.bootRom.length ≠ 256 := by
  have hl : smallest.cartRom.length = 0x8000 := List.length_replicate
  have hb : smallest.bootRom.length = 256 := List.length_replicate
  have hb' : (List.replicate 255 (0 : Byte)).length = 255 := List.length_replicate
  have hz : ∀ n i : Nat, (List.replicate n (0 : Byte)).getD i 0 = 0 := by
    intro n i
    rw [List.getD_eq_getElem?_getD, List.getElem?_replicate]
    split <;> rfl
  exact ⟨hb, by rw [hl], by rw [hl], hl, hz _ _, hz _ _, rfl, by rw [hb']; decide⟩

/-- A 32 KB cartridge with these header bytes at 0x147 and 0x149 and this many bytes of RAM. -/
def withHeader (code ramCode : Byte) (ramBytes : Nat) : LaunchParams :=
  { smallest with
    cartRom := List.replicate 0x147 0 ++ [code, 0, ramCode] ++ List.replicate 0x7EB6 0
    cartRamInit := List.replicate ramBytes 0 }

theorem withHeader_parts (code ramCode : Byte) (ramBytes : Nat) :
    let p := withHeader code ramCode ramBytes
    p.bootRom.length = 256 ∧ p.cartRom.length = 0x8000 ∧ p.cartRom.getD 0x147 0 = code ∧ p.cartRom.getD 0x149 0 = ramCode ∧
      p.cartRamInit.length = ramBytes := by
  have hg : ∀ xs ys : List Byte, xs.length = 0x147 →
      (xs ++ [code, 0, ramCode] ++ ys).length = 0x14A + ys.length ∧
        (xs ++ [code, 0, ramCode] ++ ys).getD 0x147 0 = code ∧ (xs ++ [code, 0, ramCode] ++ ys).getD 0x149 0 = ramCode := by
    intro xs ys hx
    simp [List.getElem?_append, hx]
    omega
  obtain ⟨h1, h2, h3⟩ := hg (List.replicate 0x147 0) (List.replicate 0x7EB6 0) List.length_replicate
  exact ⟨List.length_replicate, by rw [List.length_replicate] at h1; exact h1, h2, h3, List.length_replicate⟩

/-- LaunchFromTheHeader: each RAM code with each mapper and both ends of its codes, in parameters that meet the condition. -/
theorem test_witness_LaunchFromTheHeader_codes :
    ∀ h ∈ ([(0x01, 0x01, 0x800), (0x03, 0x03, 0x8000), (0x0F, 0x02, 0x2000), (0x13, 0x00, 0), (0x00, 0x02, 0x2000)] :
        List (Byte × Byte × Nat)),
      let p := withHeader h.1 h.2.1 h.2.2
      p.bootRom.length = 256 ∧ p.cartRom.length = 0x8000 ∧
        ((p.cartRom.getD 0x147 0).toNat = 0 ∨
          (p.cartRom.getD 0x147 0).toNat ∈ [0x01, 0x02, 0x03, 0x0F, 0x10, 0x11, 0x12, 0x13]) ∧
        (p.cartRom.getD 0x149 0).toNat ≤ 3 ∧
        p.cartRamInit.length = (match (p.cartRom.getD 0x149 0).toNat with
          | 1 => 0x800
          | 2 => 0x2000
          | 3 => 0x8000
          | _ => 0) := by
  intro h hm
  obtain ⟨h1, h2, h3, h4, h5⟩ := withHeader_parts h.1 h.2.1 h.2.2
  refine ⟨h1, h2, ?_⟩
  rw [h3, h4, h5]
  clear h1 h2 h3 h4 h5
  revert h
  decide

/-- A state that meets the invariant, with two ROM banks: a program byte, SP and one byte of work RAM set. -/
def inOrder : State := program [0x3C] (l0 0x12F0 0 0 0 0xD000 [(0, 1)])

/-- ResetInputKeepsCartridge, StepKeepsTheInvariant: a state that meets the invariant and steps. -/
theorem test_witness_ResetInput_StepKeepsTheInvariant :
    Inv inOrder ∧ 2 ≤ inOrder.cfg.romBankCount ∧ ∃ t, step inOrder = .next t := by
  refine ⟨⟨?_, ?_, ?_, ?_, ?_, ?_⟩, by decide, ⟨_, rfl⟩⟩
  · unfold memoriesWf; decide
  · unfold memoriesWithin; decide
  · unfold flagNibbleClear; decide
  · unfold banksInRange; decide
  · unfold ppuInRange; decide
  · unfold dmaInRange; decide

/-- StepKeepsConstants, StepCost: a running step and a halted one. -/
theorem test_witness_StepKeepsConstants_StepCost :
    (∃ t, step inOrder = .next t ∧ t.fault = false) ∧ ∃ t, step { inOrder with halted := true } = .next t :=
  ⟨⟨_, rfl, rfl⟩, ⟨_, rfl⟩⟩

end Sys2Proof.Tests
end

section
/-! PROOF. The CPU's view of the bus (spec/20_memory.md R72 to R74, R78, R81) in terms of the raw one (R95, R96): the raw access, except under the DMA mask and the PPU lockouts. -/

namespace Sys2Proof.Machine

/-- The PPU holds the storage behind this address closed to the CPU (R78, R81). -/
def lockedOut (a : Word) (s : State) : Bool :=
  match regionOf a with
  | .vram _ => vramLocked s
  | .oam _ => oamLocked s
  | _ => false

/-- The address decoder refuses a locked read, and otherwise reads raw. -/
theorem decodeRead_locked (a : Word) (s : State) :
    decodeRead true a s = if lockedOut a s then 0xFF else rawRead a s := by
  unfold decodeRead lockedOut rawRead decodeRead
  cases regionOf a <;> simp [undefinedRead]

/-- The address decoder discards a locked write, and otherwise writes raw. -/
theorem decodeWrite_locked (a : Word) (v : Byte) (s : State) :
    decodeWrite true a v s = if lockedOut a s then s else rawWrite a v s := by
  unfold decodeWrite lockedOut rawWrite decodeWrite
  cases regionOf a <;> simp

/-- A CPU read is hidden by the DMA mask or the PPU lockout, and otherwise raw. -/
theorem busRead_eq (a : Word) (s : State) :
    busRead a s = if dmaMasks a s || lockedOut a s then 0xFF else rawRead a s := by
  unfold busRead
  rw [decodeRead_locked]
  cases dmaMasks a s <;> simp [undefinedRead]

/-- A CPU write is discarded under the DMA mask or the PPU lockout, and otherwise raw. -/
theorem busWrite_eq (a : Word) (v : Byte) (s : State) :
    busWrite a v s = if dmaMasks a s || lockedOut a s then s else rawWrite a v s := by
  unfold busWrite
  rw [decodeWrite_locked]
  cases dmaMasks a s <;> simp

theorem dmaMasks_iff (a : Word) (s : State) :
    dmaMasks a s = true ↔ s.dma.active = true ∧ a.toNat < 0xFF00 := by
  simp [dmaMasks]

theorem vramLocked_iff (s : State) : vramLocked s = true ↔ s.ppu.mode = .pixelPut := by
  simp [vramLocked]

theorem oamLocked_iff (s : State) :
    oamLocked s = true ↔ s.ppu.mode = .oamScan ∨ s.ppu.mode = .pixelPut := by
  simp [oamLocked]

/-- The lockouts by address range and PPU mode (R78, R81): the ranges are those of the address map (R70). -/
theorem lockedOut_iff (a : Word) (s : State) :
    lockedOut a s = true ↔
      (0x8000 ≤ a.toNat ∧ a.toNat < 0xA000 ∧ s.ppu.mode = .pixelPut) ∨
      (0xFE00 ≤ a.toNat ∧ a.toNat < 0xFEA0 ∧ (s.ppu.mode = .oamScan ∨ s.ppu.mode = .pixelPut)) := by
  have hb := regionOf_bounds a
  rw [← oamLocked_iff, ← vramLocked_iff]
  cases hr : regionOf a <;> simp only [hr] at hb <;> simp only [lockedOut, hr]
  case vram off =>
    have hin : 0x8000 ≤ a.toNat ∧ a.toNat < 0xA000 := by omega
    have hout : ¬ 0xFE00 ≤ a.toNat := by omega
    simp [hin, hout]
  case oam off =>
    have hin : 0xFE00 ≤ a.toNat ∧ a.toNat < 0xFEA0 := by omega
    have hout : ¬ a.toNat < 0xA000 := by omega
    simp [hin, hout]
  case ie =>
    subst hb
    simp
  -- every other region lies outside both ranges
  all_goals grind

end Sys2Proof.Machine

open Sys2Proof.Machine

/-- Settles O41: the CPU access is the raw one outside the DMA mask and the PPU lockouts, both read off the address. -/
theorem cpuAccessCostAndMasks : Obligations.CpuAccessCostAndMasks := by
  intro a v s masked locked
  have hhidden : (dmaMasks a s || lockedOut a s) = true ↔ masked ∨ locked := by
    rw [Bool.or_eq_true, dmaMasks_iff, lockedOut_iff]
  refine ⟨rfl, memWrite_eq a v s, fun h => ?_, fun hm hl => ?_⟩
  · have hh := hhidden.mpr h
    exact ⟨(busRead_eq a s).trans (if_pos hh), (busWrite_eq a v s).trans (if_pos hh)⟩
  · have hh := mt hhidden.mp (not_or.mpr ⟨hm, hl⟩)
    exact ⟨(busRead_eq a s).trans (if_neg hh), (busWrite_eq a v s).trans (if_neg hh)⟩

end

section
/-! PROOF. The encoder and the decoder agree (spec/30_encoding.md R160, R167, R170 to R172, R176): the bytes of an instruction decode to it, and bytes that follow an instruction do not change what is decoded. -/

namespace Sys2Proof

/-- Bytes appended to an instruction are left over, except after the marker, which another byte turns into a CB row
(R176; log entry 11). -/
theorem decode_append {bytes : List Byte} {i : Instr} {left : List Byte} (more : List Byte)
    (h : decode bytes = .instr i left) (hmark : i ≠ .cbPrefix) :
    decode (bytes ++ more) = .instr i (left ++ more) := by
  match bytes with
  | [] => simp [decode] at h
  | op :: operands =>
    cases hrow : baseRow op with
    | op j => simp_all [decode]
    | d8 mk =>
      match operands with
      | [] => simp [decode, hrow] at h
      | n :: tail => simp_all [decode]
    | d16 mk =>
      match operands with
      | [] | [_] => simp [decode, hrow] at h
      | lo :: hi :: tail => simp_all [decode]
    | cbTable =>
      match operands with
      | [] => exact absurd (by simp_all [decode]) hmark
      | cbop :: tail => simp_all [decode]

/-- A row with a 16-bit operand joins the two bytes of a value to it again (R100). -/
theorem decode_d16 {op : Byte} {mk : Word → Instr} (hrow : baseRow op = .d16 mk) (nn : Word) :
    decode [op, loByte nn, hiByte nn] = .instr (mk nn) [] := by
  simp only [decode, hrow, Machine.joinBytes_lo_hi]

/-- The row of an undefined opcode holds that opcode's own `illegal` (R172). -/
theorem decode_undefined {op : Byte} (h : op ∈ undefinedOpcodes) : decode [op] = .instr (.illegal op) [] := by
  unfold undefinedOpcodes at h
  fin_cases h <;> rfl

/-- The bytes of a well-formed instruction decode to it, with nothing left over. -/
theorem decode_encode {i : Instr} (hwf : i.wellFormed = true) : decode (encode i) = .instr i [] := by
  cases i
  case illegal op => exact decode_undefined (List.contains_iff_mem.mp hwf)
  case ld_BC_d16 nn | ld_DE_d16 nn | ld_HL_d16 nn | ld_SP_d16 nn | ld_atA16_SP nn | ld_atA16_A nn | ld_A_atA16 nn |
      jp_a16 nn | jp_NZ_a16 nn | jp_Z_a16 nn | jp_NC_a16 nn | jp_C_a16 nn |
      call_a16 nn | call_NZ_a16 nn | call_Z_a16 nn | call_NC_a16 nn | call_C_a16 nn =>
    exact decode_d16 rfl nn
  -- no 16-bit value to join again in the rest: the row of the first byte, or of the second after 0xCB, is the instruction's own
  all_goals rfl

end Sys2Proof

open Sys2Proof

/-- Settles O1: an encoding decodes to its instruction with nothing left over, and bytes after it stay left over; the
marker has none after it. -/
theorem decodeOfEncode : Obligations.DecodeOfEncode := by
  intro i rest hwf hmark
  by_cases hi : i = .cbPrefix
  · rw [hmark hi, List.append_nil]
    exact decode_encode hwf
  · exact decode_append rest (decode_encode hwf) hi

end

section
/-! PROOF. Rules for the frames of an instruction that stays within the register file, and for its encoding: they say when the predicates of Sys2Proof/Safety.lean hold of one update and of two in a row. -/

namespace Sys2Proof.Machine

/-- The bytes of a well-formed instruction encode it, whatever follows them; the marker apart (log entry 11). -/
theorem encodes_of_encode_eq {bytes : List Byte} {i : Instr} (hbytes : encode i = bytes)
    (hwf : i.wellFormed = true := by rfl) (hmark : i ≠ .cbPrefix := by nofun) : encodes bytes i :=
  fun rest => hbytes ▸ decodeOfEncode i rest hwf (fun h => absurd h hmark)

theorem readReg8_congr {s t : State} (h : t.regs = s.regs) (r : Reg8) : readReg8 r t = readReg8 r s := by
  unfold readReg8
  rw [h]

theorem regsKeptExcept_trans {xs ys : List Reg8} {s t u : State} (h1 : regsKeptExcept xs s t)
    (h2 : regsKeptExcept ys t u) : regsKeptExcept (xs ++ ys) s u := by
  intro r hr
  rw [List.mem_append, not_or] at hr
  exact (h2 r hr.2).trans (h1 r hr.1)

/-- No read sees the registers or the cycle count, so the equality of the other fields is the whole frame. -/
theorem onlyRegsChange_of_eq {s t : State} (h : t = { s with regs := t.regs, stepCycles := t.stepCycles }) :
    onlyRegsChange s t :=
  ⟨h, fun x => by rw [h]; rfl⟩

theorem onlyRegsChange_trans {s t u : State} (h1 : onlyRegsChange s t) (h2 : onlyRegsChange t u) :
    onlyRegsChange s u := by
  refine onlyRegsChange_of_eq (h2.1.trans ?_)
  rw [h1.1]

/-- A store keeps its frame when only registers change after it. -/
theorem storesByte_of_onlyRegsChange {a : Word} {v : Byte} {s t u : State} (h1 : storesByte a v s t)
    (h2 : onlyRegsChange t u) : storesByte a v s u := by
  obtain ⟨hstate, hmem⟩ := h1
  obtain ⟨hregs, hread⟩ := h2
  refine ⟨hregs.trans ?_, fun hwf x hx => (hread x).trans (hmem hwf x hx)⟩
  rw [hstate]

theorem onlyRegsChange_tick (n : Nat) (s : State) : onlyRegsChange s (tick n s) := onlyRegsChange_of_eq rfl

theorem regsKeptExcept_writeReg8 (rd : Reg8) (v : Byte) (s : State) : regsKeptExcept [rd] s (writeReg8 rd v s) :=
  fun q hq => readReg8_writeReg8_other rd q v s (mt List.mem_singleton.mpr hq)

theorem onlyRegsChange_writeReg8 (rd : Reg8) (v : Byte) (s : State) : onlyRegsChange s (writeReg8 rd v s) :=
  onlyRegsChange_of_eq (by cases rd <;> rfl)

end Sys2Proof.Machine

end

section
/-! PROOF. The 8-bit loads (spec/40_load8.md R200 to R219). What each shared operation does is said once; an instruction's statement follows from the operation its arm of `exec` calls. -/

namespace Sys2Proof.Machine

/-- An address of the high page as a sum (R167). -/
theorem highPage_eq_add (n : Byte) : highPage n = 0xFF00 + n.zeroExtend 16 := by
  apply BitVec.eq_of_toNat_eq
  have hn := n.isLt
  rw [highPage, joinBytes, BitVec.toNat_append, ← Nat.shiftLeft_add_eq_or_of_lt hn]
  simp only [BitVec.toNat_add, BitVec.toNat_setWidth, BitVec.ofNat_eq_ofNat, BitVec.toNat_ofNat]
  omega

/-! ## The step of HL (R216 to R219) -/

theorem readReg16_hl_stepHL (k : Word) (s : State) : readReg16 .hl (stepHL k s) = readReg16 .hl s + k :=
  readReg16_writeReg16_same .hl _ s

theorem stepHL_f (k : Word) (s : State) : (stepHL k s).regs.f = s.regs.f := rfl

theorem regsKeptExcept_stepHL (k : Word) (s : State) : regsKeptExcept [.h, .l] s (stepHL k s) := by
  intro r hr
  cases r
  case h | l => simp at hr
  all_goals rfl

theorem onlyRegsChange_stepHL (k : Word) (s : State) : onlyRegsChange s (stepHL k s) := onlyRegsChange_of_eq rfl

/-! ## The stores (R204, R205, R208, R209, R211, R213, R215) -/

@[simp] theorem storeAt_regs (a : Word) (v : Byte) (s : State) : (storeAt a v s).regs = s.regs := memWrite_regs a v s

@[simp] theorem storeAt_stepCycles (a : Word) (v : Byte) (s : State) : (storeAt a v s).stepCycles = s.stepCycles + 4 :=
  memWrite_stepCycles a v s

theorem storesByte_storeAt (a : Word) (v : Byte) (s : State) : storesByte a v s (storeAt a v s) := by
  rw [storeAt, memWrite_eq]
  exact storesByte_of_busWrite a v s (busWrite a v s).regs (s.stepCycles + 4)

/-! ## Instructions by the operation they run: `len` bytes, fetched and counted before `s` (log entry 13) -/

/-- An instruction that counts `n` cycles and writes one register. -/
theorem writesReg8_of_exec {i : Instr} {rd : Reg8} {v : Byte} {s : State} (n len : Nat)
    (hexec : exec i s = .next (writeReg8 rd v (tick n s))) :
    ∃ t, exec i s = .next t ∧ readReg8 rd t = v ∧ regsKeptExcept [rd] s t ∧ flagsKept s t ∧ onlyRegsChange s t ∧
      takes (4 * len + n) len s t := by
  refine ⟨_, hexec, readReg8_writeReg8_same rd v _, regsKeptExcept_trans (xs := []) (fun r _ => readReg8_tick r n s)
    (regsKeptExcept_writeReg8 rd v _), writeReg8_f rd v _,
    onlyRegsChange_trans (onlyRegsChange_tick n s) (onlyRegsChange_writeReg8 rd v _), ?_⟩
  rw [takes, writeReg8_stepCycles, tick_stepCycles]
  omega

/-- A load of A from (HL) that then steps HL. -/
theorem loadsAndStepsHL_of_exec {i : Instr} {k : Word} {s : State}
    (hexec : exec i s = .next (stepHL k (loadRegAt .a (hlAddr s) s))) :
    ∃ t, exec i s = .next t ∧ t.regs.a = busRead (readReg16 .hl s) s ∧ readReg16 .hl t = readReg16 .hl s + k ∧
      regsKeptExcept [.a, .h, .l] s t ∧ flagsKept s t ∧ onlyRegsChange s t ∧ takes 8 1 s t := by
  have hload : onlyRegsChange s (loadRegAt .a (hlAddr s) s) := onlyRegsChange_of_eq rfl
  exact ⟨_, hexec, rfl, readReg16_hl_stepHL k (loadRegAt .a (hlAddr s) s),
    regsKeptExcept_trans (regsKeptExcept_writeReg8 .a (busRead (hlAddr s) s) s) (regsKeptExcept_stepHL k _), rfl,
    onlyRegsChange_trans hload (onlyRegsChange_stepHL k _), rfl⟩

/-- A store and nothing else. -/
theorem stores_of_exec {i : Instr} {a : Word} {v : Byte} {s : State} (len : Nat)
    (hexec : exec i s = .next (storeAt a v s)) :
    ∃ t, exec i s = .next t ∧ storesByte a v s t ∧ t.regs = s.regs ∧ takes (4 * len + 4) len s t := by
  refine ⟨_, hexec, storesByte_storeAt a v s, storeAt_regs a v s, ?_⟩
  rw [takes, storeAt_stepCycles]
  omega

/-- A store to (HL) that then steps HL. -/
theorem storesAndStepsHL_of_exec {i : Instr} {k : Word} {v : Byte} {s : State}
    (hexec : exec i s = .next (stepHL k (storeAt (hlAddr s) v s))) :
    ∃ t, exec i s = .next t ∧ storesByte (readReg16 .hl s) v s t ∧ readReg16 .hl t = readReg16 .hl s + k ∧
      regsKeptExcept [.h, .l] s t ∧ flagsKept s t ∧ takes 8 1 s t := by
  have hregs := storeAt_regs (hlAddr s) v s
  refine ⟨_, hexec, storesByte_of_onlyRegsChange (storesByte_storeAt _ v s) (onlyRegsChange_stepHL k _), ?_,
    regsKeptExcept_trans (xs := []) (fun r _ => readReg8_congr hregs r) (regsKeptExcept_stepHL k _),
    (stepHL_f k _).trans (congrArg Regs.f hregs), ?_⟩
  · rw [readReg16_hl_stepHL]
    simp only [readReg16, hregs]
  · rw [takes, stepHL, writeReg16_stepCycles, storeAt_stepCycles]

/-! ## The forms over every register -/

theorem exec_ldRegReg (rd rs : Reg8) (s : State) : exec (Forms.ldRegReg rd rs) s = .next (loadRegReg rd rs s) := by
  cases rd <;> cases rs <;> rfl

theorem exec_ldRegImm (rd : Reg8) (d8 : Byte) (s : State) :
    exec (Forms.ldRegImm rd d8) s = .next (loadRegImm rd d8 s) := by
  cases rd <;> rfl

theorem exec_ldRegAtHL (rd : Reg8) (s : State) :
    exec (Forms.ldRegAtHL rd) s = .next (loadRegAt rd (hlAddr s) s) := by
  cases rd <;> rfl

theorem exec_ldAtHLReg (r : Reg8) (s : State) :
    exec (Forms.ldAtHLReg r) s = .next (storeAt (hlAddr s) (readReg8 r s) s) := by
  cases r <;> rfl

theorem encodes_ldRegReg (rd rs : Reg8) :
    encodes [0x40 + 8 * Forms.reg8Code rd + Forms.reg8Code rs] (Forms.ldRegReg rd rs) := by
  cases rd <;> cases rs <;> exact encodes_of_encode_eq rfl

theorem encodes_ldRegImm (rd : Reg8) (d8 : Byte) :
    encodes [0x06 + 8 * Forms.reg8Code rd, d8] (Forms.ldRegImm rd d8) := by
  cases rd <;> exact encodes_of_encode_eq rfl

theorem encodes_ldRegAtHL (rd : Reg8) : encodes [0x46 + 8 * Forms.reg8Code rd] (Forms.ldRegAtHL rd) := by
  cases rd <;> exact encodes_of_encode_eq rfl

theorem encodes_ldAtHLReg (r : Reg8) : encodes [0x70 + Forms.reg8Code r] (Forms.ldAtHLReg r) := by
  cases r <;> exact encodes_of_encode_eq rfl

end Sys2Proof.Machine

open Sys2Proof.Machine

/-- Settles O10: both forms write one register, and count no cycle after their fetch. -/
theorem loadRegister : Obligations.LoadRegister :=
  ⟨fun rd rs => ⟨encodes_ldRegReg rd rs, fun s => writesReg8_of_exec 0 1 (exec_ldRegReg rd rs s)⟩,
    fun rd d8 => ⟨encodes_ldRegImm rd d8, fun s => writesReg8_of_exec 0 2 (exec_ldRegImm rd d8 s)⟩⟩

/-- Settles O11: a load writes one register with the byte of one CPU read, which counts 4 cycles; the address is computed
in the state before either. -/
theorem loadFromMemory : Obligations.LoadFromMemory := by
  refine ⟨fun rd => ⟨encodes_ldRegAtHL rd, fun s => writesReg8_of_exec 4 1 (exec_ldRegAtHL rd s)⟩, fun n a s => ?_,
    fun s => ?_⟩
  · simp only [List.forall_mem_cons, List.not_mem_nil, IsEmpty.forall_iff, implies_true, and_true, ← highPage_eq_add]
    exact ⟨⟨encodes_of_encode_eq rfl, writesReg8_of_exec (rd := .a) 4 1 rfl⟩,
      ⟨encodes_of_encode_eq rfl, writesReg8_of_exec (rd := .a) 4 1 rfl⟩,
      ⟨encodes_of_encode_eq rfl, writesReg8_of_exec (rd := .a) 4 3 rfl⟩,
      ⟨encodes_of_encode_eq rfl, writesReg8_of_exec (rd := .a) 4 2 rfl⟩,
      ⟨encodes_of_encode_eq rfl, writesReg8_of_exec (rd := .a) 4 1 rfl⟩⟩
  · simp only [List.forall_mem_cons, List.not_mem_nil, IsEmpty.forall_iff, implies_true, and_true]
    exact ⟨⟨encodes_of_encode_eq rfl, loadsAndStepsHL_of_exec rfl⟩,
      ⟨encodes_of_encode_eq rfl, loadsAndStepsHL_of_exec rfl⟩⟩

/-- Settles O12: a store is one CPU write to an address computed in the state before it. -/
theorem storeToMemory : Obligations.StoreToMemory := by
  refine ⟨fun r => ⟨encodes_ldAtHLReg r, fun s => stores_of_exec 1 (exec_ldAtHLReg r s)⟩, fun n a s => ?_, fun s => ?_⟩
  · simp only [List.forall_mem_cons, List.not_mem_nil, IsEmpty.forall_iff, implies_true, and_true, ← highPage_eq_add]
    exact ⟨⟨encodes_of_encode_eq rfl, stores_of_exec 2 rfl⟩,
      ⟨encodes_of_encode_eq rfl, stores_of_exec 1 rfl⟩,
      ⟨encodes_of_encode_eq rfl, stores_of_exec 1 rfl⟩,
      ⟨encodes_of_encode_eq rfl, stores_of_exec 3 rfl⟩,
      ⟨encodes_of_encode_eq rfl, stores_of_exec 2 rfl⟩,
      ⟨encodes_of_encode_eq rfl, stores_of_exec 1 rfl⟩⟩
  · simp only [List.forall_mem_cons, List.not_mem_nil, IsEmpty.forall_iff, implies_true, and_true]
    exact ⟨⟨encodes_of_encode_eq rfl, storesAndStepsHL_of_exec rfl⟩,
      ⟨encodes_of_encode_eq rfl, storesAndStepsHL_of_exec rfl⟩⟩

end

section
/-! PROOF. Rules for the frames of an instruction that also writes SP, pushes, or writes the flags, and for the parts of a pair: what the predicates of Sys2Proof/Safety.lean say of one shared operation. -/

namespace Sys2Proof.Machine

/-! ## The parts of a pair (R21) -/

/-- The registers of `r8` a pair is made of; SP has none. -/
def Reg16.halves : Reg16 → List Reg8
  | .bc => [.b, .c]
  | .de => [.d, .e]
  | .hl => [.h, .l]
  | .sp => []

theorem regsKeptExcept_writeReg16 (rr : Reg16) (v : Word) (s : State) :
    regsKeptExcept rr.halves s (writeReg16 rr v s) := by
  intro r hr
  cases rr
  case sp => exact readReg8_congr rfl r
  all_goals cases r <;> simp_all [Reg16.halves, writeReg16, readReg8]

/-- Writing a pair or SP leaves the others. -/
theorem readReg16_writeReg16_other (r q : Reg16) (v : Word) (s : State) (h : q ≠ r) :
    readReg16 q (writeReg16 r v s) = readReg16 q s := by
  cases r <;> cases q <;> simp_all [writeReg16, readReg16]

@[simp] theorem writeReg16_a (r : Reg16) (v : Word) (s : State) : (writeReg16 r v s).regs.a = s.regs.a := by
  cases r <;> rfl

@[simp] theorem writeReg16_f (r : Reg16) (v : Word) (s : State) : (writeReg16 r v s).regs.f = s.regs.f := by
  cases r <;> rfl

@[simp] theorem readReg16_setFlags (r : Reg16) (w : FlagWrite) (s : State) :
    readReg16 r (setFlags w s) = readReg16 r s := by
  cases r <;> rfl

@[simp] theorem readReg16_tick (r : Reg16) (n : Nat) (s : State) : readReg16 r (tick n s) = readReg16 r s := by
  cases r <;> rfl

@[simp] theorem loByte_joinBytes (lo hi : Byte) : loByte (joinBytes lo hi) = lo := BitVec.extractLsb'_append_eq_right

@[simp] theorem hiByte_joinBytes (lo hi : Byte) : hiByte (joinBytes lo hi) = hi := BitVec.extractLsb'_append_eq_left

/-! ## The frames -/

/-- F after `Flags(z, n, h, c)` holds the flags given and the old ones where none is (R10). -/
theorem flagsAre_setFlags (w : FlagWrite) (s : State) :
    flagsAre (w.z.getD (flagZ s)) (w.n.getD (flagN s)) (w.h.getD (flagH s)) (w.c.getD (flagC s)) (setFlags w s) :=
  ⟨flagZ_setFlags w s, flagN_setFlags w s, flagH_setFlags w s, flagC_setFlags w s, setFlags_low_nibble w s⟩

/-- No read sees the registers, SP or the cycle count, so the equality of the other fields is the whole frame. -/
theorem onlyRegsSpChange_of_eq {s t : State} (h : t = { s with regs := t.regs, sp := t.sp, stepCycles := t.stepCycles }) :
    onlyRegsSpChange s t :=
  ⟨h, fun x => by rw [h]; rfl⟩

theorem onlyRegsSpChange_writeReg16 (rr : Reg16) (v : Word) (s : State) : onlyRegsSpChange s (writeReg16 rr v s) :=
  onlyRegsSpChange_of_eq (by cases rr <;> rfl)

/-- `Push16` after some cycles pushes its word (R10). -/
theorem pushesWord_push16_tick (v : Word) (n : Nat) (s : State) : pushesWord v s (push16 v (tick n s)) := by
  have hstate := push16_writes v (tick n s)
  rw [busWrite_tick, busWrite_tick] at hstate
  rw [pushesWord, hstate]
  exact ⟨storesTwo_of_busWrite _ _ _ _ s _ _ _ _, rfl⟩

end Sys2Proof.Machine

end

section
/-! PROOF. The 16-bit loads and the stack instructions (spec/41_load16_stack.md R230 to R236) and `ADD SP,e8` (spec/43_alu16.md R303). -/

namespace Sys2Proof.Machine

/-! ## LD rr,d16 and LD (a16),SP (R230, R231) -/

theorem exec_ldReg16Imm (rr : Reg16) (d16 : Word) (s : State) :
    exec (Forms.ldReg16Imm rr d16) s = .next (writeReg16 rr d16 s) := by
  cases rr <;> rfl

theorem encodes_ldReg16Imm (rr : Reg16) (d16 : Word) :
    encodes [0x01 + 16 * Forms.reg16Code rr, d16.extractLsb' 0 8, d16.extractLsb' 8 8] (Forms.ldReg16Imm rr d16) := by
  cases rr <;> exact encodes_of_encode_eq rfl

/-- The two CPU writes of `LD (a16),SP` in their order, 4 cycles each. -/
theorem storeSpAt_writes (a : Word) (s : State) :
    storeSpAt a s = tick 4 (tick 4 (busWrite (a + 1) (hiByte s.sp) (busWrite a (loByte s.sp) s))) := by
  simp only [storeSpAt, memWrite, busWrite_tick]

theorem storesTwo_storeSpAt (a : Word) (s : State) :
    storesTwo a (loByte s.sp) (a + 1) (hiByte s.sp) s (storeSpAt a s) := by
  rw [storeSpAt_writes]
  exact storesTwo_of_busWrite _ _ _ _ s _ _ _ _

/-! ## SP + e8 (R233, R303) -/

/-- The sum with a displacement, as an integer modulo 2^16. -/
theorem addDisplacement_eq_ofInt (v : Word) (e : Byte) :
    addDisplacement v e = BitVec.ofInt 16 ((v.toNat : Int) + e.toInt) := by
  rw [BitVec.ofInt_add, BitVec.ofInt_natCast, BitVec.ofNat_toNat, BitVec.setWidth_eq]
  rfl

/-- What `LD HL,SP+e8` and `ADD SP,e8` share: the sum goes to a pair or SP, then the flags, then the rest of the
cycles. -/
def writeSpOffset (n : Nat) (rr : Reg16) (e : Byte) (s : State) : State :=
  tick n (setFlags (addSpE8 s.sp e).2 (writeReg16 rr (addSpE8 s.sp e).1 s))

theorem exec_ld_HL_SPe8 (e : Byte) (s : State) : exec (.ld_HL_SPe8 e) s = .next (writeSpOffset 4 .hl e s) := rfl

theorem exec_add_SP_e8 (e : Byte) (s : State) : exec (.add_SP_e8 e) s = .next (writeSpOffset 8 .sp e s) := rfl

theorem readReg16_writeSpOffset (n : Nat) (rr : Reg16) (e : Byte) (s : State) :
    readReg16 rr (writeSpOffset n rr e s) = BitVec.ofInt 16 ((s.sp.toNat : Int) + e.toInt) := by
  rw [writeSpOffset, readReg16_tick, readReg16_setFlags, readReg16_writeReg16_same, ← addDisplacement_eq_ofInt]
  rfl

theorem flagsAre_writeSpOffset (n : Nat) (rr : Reg16) (e : Byte) (s : State) :
    flagsAre false false (decide (s.sp.toNat % 16 + e.toNat % 16 > 0x0F)) (decide (s.sp.toNat % 256 + e.toNat > 0xFF))
      (writeSpOffset n rr e s) :=
  flagsAre_setFlags (addSpE8 s.sp e).2 _

theorem regsKeptExcept_writeSpOffset (n : Nat) (rr : Reg16) (e : Byte) (s : State) :
    regsKeptExcept rr.halves s (writeSpOffset n rr e s) := by
  intro r hr
  rw [writeSpOffset, readReg8_tick, readReg8_setFlags]
  exact regsKeptExcept_writeReg16 rr _ s r hr

/-! ## PUSH and POP (R234 to R236) -/

theorem exec_push (rr : StackReg) (s : State) :
    exec (Forms.push rr) s = .next (push16 (readStackReg rr s) (tick 4 s)) := by
  cases rr <;> rfl

theorem encodes_push (rr : StackReg) : encodes [0xC5 + 16 * Forms.stackRegCode rr] (Forms.push rr) := by
  cases rr <;> exact encodes_of_encode_eq rfl

/-- The registers with the pair of a POP replaced by the bytes read, F keeping its upper nibble (R22, R236). -/
def setStackPair (rr : StackReg) (lo hi : Byte) (r : Regs) : Regs :=
  match rr with
  | .bc => { r with b := hi, c := lo }
  | .de => { r with d := hi, e := lo }
  | .hl => { r with h := hi, l := lo }
  | .af => { r with a := hi, f := lo &&& 0xF0 }

theorem writeStackReg_regs (rr : StackReg) (lo hi : Byte) (s : State) :
    (writeStackReg rr (joinBytes lo hi) s).regs = setStackPair rr lo hi s.regs := by
  cases rr <;> simp [writeStackReg, writeReg16, writeReg8, writeF, setStackPair]

theorem onlyRegsSpChange_writeStackReg (rr : StackReg) (v sp : Word) (n : Nat) (s : State) :
    onlyRegsSpChange s (writeStackReg rr v { s with sp := sp, stepCycles := n }) :=
  onlyRegsSpChange_of_eq (by cases rr <;> rfl)

theorem popReg_eq (rr : StackReg) (s : State) :
    popReg rr s =
      writeStackReg rr (joinBytes (busRead s.sp s) (busRead (s.sp + 1) s))
        { s with sp := s.sp + 1 + 1, stepCycles := s.stepCycles + 8 } := rfl

/-- An instruction that pops a pair. -/
theorem popsPair_of_exec {i : Instr} {s : State} (rr : StackReg) (hexec : exec i s = .next (popReg rr s)) :
    ∃ t, exec i s = .next t ∧ t.regs = setStackPair rr (busRead s.sp s) (busRead (s.sp + 1) s) s.regs ∧
      t.sp = s.sp + 2 ∧ onlyRegsSpChange s t ∧ takes 12 1 s t := by
  have hsp : s.sp + 1 + 1 = s.sp + 2 := add_assoc s.sp 1 1
  rw [popReg_eq, hsp] at hexec
  exact ⟨_, hexec, writeStackReg_regs rr _ _ _, writeStackReg_sp rr _ _, onlyRegsSpChange_writeStackReg rr _ _ _ s,
    by rw [takes, writeStackReg_stepCycles]⟩

end Sys2Proof.Machine

open Sys2Proof.Machine

/-- Settles O13: the loads write one pair or SP, and the store is two CPU writes in the order of the rule. -/
theorem load16 : Obligations.Load16 := by
  refine ⟨fun rr d16 => ⟨encodes_ldReg16Imm rr d16, fun s => ?_⟩, ⟨encodes_of_encode_eq rfl, fun s => ?_⟩,
    fun a => ⟨encodes_of_encode_eq rfl, fun s => ?_⟩⟩
  · exact ⟨_, exec_ldReg16Imm rr d16 s, readReg16_writeReg16_same rr d16 s,
      fun q hq => readReg16_writeReg16_other rr q d16 s hq, writeReg16_a rr d16 s, writeReg16_f rr d16 s,
      onlyRegsSpChange_writeReg16 rr d16 s, by rw [takes, writeReg16_stepCycles]⟩
  · exact ⟨_, rfl, rfl, rfl, onlyRegsSpChange_of_eq rfl, rfl⟩
  · exact ⟨_, rfl, storesTwo_storeSpAt a s, by simp [storeSpAt], by simp [storeSpAt], by simp [storeSpAt],
      by simp [takes, storeSpAt]⟩

/-- Settles O14: both instructions write the one sum and its flags, to HL and to SP. -/
theorem stackPointerOffset : Obligations.StackPointerOffset := by
  refine fun e => ⟨⟨encodes_of_encode_eq rfl, encodes_of_encode_eq rfl⟩, fun s => ⟨?_, ?_⟩⟩
  · exact ⟨_, exec_ld_HL_SPe8 e s, readReg16_writeSpOffset 4 .hl e s, flagsAre_writeSpOffset 4 .hl e s,
      regsKeptExcept_writeSpOffset 4 .hl e s, onlyRegsChange_of_eq rfl, rfl⟩
  · exact ⟨_, exec_add_SP_e8 e s, readReg16_writeSpOffset 8 .sp e s, flagsAre_writeSpOffset 8 .sp e s,
      regsKeptExcept_writeSpOffset 8 .sp e s, onlyRegsSpChange_of_eq rfl, rfl⟩

/-- Settles O15: 4 cycles, then `Push16` of the pair. -/
theorem pushRegisterPair : Obligations.PushRegisterPair := by
  refine fun rr => ⟨encodes_push rr, fun s => ⟨_, exec_push rr s, ?_, push16_regs _ _, push16_pc _ _, ?_⟩⟩
  · cases rr <;> exact pushesWord_push16_tick _ 4 s
  · rw [takes, push16_stepCycles, tick_stepCycles]

/-- Settles O16: the four pairs, each by what a POP writes. -/
theorem popRegisterPair : Obligations.PopRegisterPair :=
  ⟨⟨encodes_of_encode_eq rfl, encodes_of_encode_eq rfl, encodes_of_encode_eq rfl, encodes_of_encode_eq rfl⟩,
    fun _ => ⟨popsPair_of_exec .bc rfl, popsPair_of_exec .de rfl, popsPair_of_exec .hl rfl, popsPair_of_exec .af rfl⟩⟩

end

section
/-! PROOF. Rules for an instruction that ends with a write of the flags, alone, after one register or after one byte of memory: what the predicates of Sys2Proof/Safety.lean say of it. -/

namespace Sys2Proof.Machine

theorem onlyRegsChange_setFlags (w : FlagWrite) (s : State) : onlyRegsChange s (setFlags w s) := onlyRegsChange_of_eq rfl

/-- A flag that `Flags(z, n, h, c)` leaves keeps the value it had in an earlier state with the same F (R10). -/
theorem flagsAre_setFlags_of_f_eq (w : FlagWrite) {s t : State} (hf : flagsKept s t) :
    flagsAre (w.z.getD (flagZ s)) (w.n.getD (flagN s)) (w.h.getD (flagH s)) (w.c.getD (flagC s)) (setFlags w t) := by
  have hflags := flagsAre_setFlags w t
  simp only [flagZ, flagN, flagH, flagC, show t.regs.f = s.regs.f from hf] at hflags
  exact hflags

/-- An instruction that writes the flags and nothing else. -/
theorem setsFlags_of_exec {i : Instr} {w : FlagWrite} {s : State} (hexec : exec i s = .next (setFlags w s)) :
    ∃ t, exec i s = .next t ∧
      flagsAre (w.z.getD (flagZ s)) (w.n.getD (flagN s)) (w.h.getD (flagH s)) (w.c.getD (flagC s)) t ∧
      regsKeptExcept [] s t ∧ onlyRegsChange s t ∧ takes 4 1 s t :=
  ⟨_, hexec, flagsAre_setFlags w s, fun r _ => readReg8_setFlags r w s, onlyRegsChange_setFlags w s, rfl⟩

/-- An instruction that counts `n` cycles, writes one register and then the flags. -/
theorem writesReg8AndFlags_of_exec {i : Instr} {rd : Reg8} {v : Byte} {w : FlagWrite} {s : State} (n len : Nat)
    (hexec : exec i s = .next (setFlags w (writeReg8 rd v (tick n s)))) :
    ∃ t, exec i s = .next t ∧ readReg8 rd t = v ∧
      flagsAre (w.z.getD (flagZ s)) (w.n.getD (flagN s)) (w.h.getD (flagH s)) (w.c.getD (flagC s)) t ∧
      regsKeptExcept [rd] s t ∧ onlyRegsChange s t ∧ takes (4 * len + n) len s t := by
  refine ⟨_, hexec, ?_, flagsAre_setFlags_of_f_eq w (writeReg8_f rd v _), fun r hr => ?_,
    onlyRegsChange_trans (onlyRegsChange_tick n s)
      (onlyRegsChange_trans (onlyRegsChange_writeReg8 rd v _) (onlyRegsChange_setFlags w _)), ?_⟩
  · rw [readReg8_setFlags, readReg8_writeReg8_same]
  · rw [readReg8_setFlags, regsKeptExcept_writeReg8 rd v _ r hr, readReg8_tick]
  · rw [takes, setFlags_stepCycles, writeReg8_stepCycles, tick_stepCycles]
    omega

/-- An instruction that counts the cycles of a read, stores one byte and then writes the flags. -/
theorem storesByteAndFlags_of_exec {i : Instr} {a : Word} {v : Byte} {w : FlagWrite} {s : State}
    (hexec : exec i s = .next (setFlags w (memWrite a v (tick 4 s)))) :
    ∃ t, exec i s = .next t ∧ storesByte a v s t ∧
      flagsAre (w.z.getD (flagZ s)) (w.n.getD (flagN s)) (w.h.getD (flagH s)) (w.c.getD (flagC s)) t ∧
      regsKeptExcept [] s t ∧ takes 12 1 s t := by
  have hregs : (memWrite a v (tick 4 s)).regs = s.regs := memWrite_regs a v (tick 4 s)
  refine ⟨_, hexec, ?_, flagsAre_setFlags_of_f_eq w (congrArg Regs.f hregs), fun r _ => ?_, ?_⟩
  · rw [memWrite_eq, busWrite_tick]
    exact storesByte_of_busWrite a v s _ _
  · rw [readReg8_setFlags, readReg8_congr hregs]
  · rw [takes, setFlags_stepCycles, memWrite_stepCycles, tick_stepCycles]

end Sys2Proof.Machine

end

section
/-! PROOF. The 8-bit arithmetic and logic instructions (spec/42_alu8.md R252 to R291): the functions of Sys2Proof/Machine/Flags.lean as integer arithmetic, then each instruction by the operation its arm of `exec` runs. -/

namespace Sys2Proof.Machine

/-! ## ADD, ADC, SUB, SBC and CP as integer arithmetic (R253, R254) -/

theorem ofInt_sub {n : Nat} (x y : Int) : BitVec.ofInt n (x - y) = BitVec.ofInt n x - BitVec.ofInt n y := by
  rw [sub_eq_add_neg, BitVec.ofInt_add, BitVec.ofInt_neg, ← sub_eq_add_neg]

theorem ofInt_toNat {n : Nat} (x : BitVec n) : BitVec.ofInt n x.toNat = x := by
  rw [BitVec.ofInt_natCast, BitVec.ofNat_toNat, BitVec.setWidth_eq]

/-- The carry an operation adds or borrows, when only the form `p` uses the old carry. -/
theorem carryIn_toNat (p : Prop) [Decidable p] (c : Bool) : (decide p && c).toNat = if p ∧ c = true then 1 else 0 := by
  simp [Bool.toNat, Bool.cond_eq_ite]

theorem alu8_add_adc {op : AluOp} (hop : op = .add ∨ op = .adc) (a x : Byte) (c : Bool) :
    alu8 op a x c = add8 a x (decide (op = .adc) && c) := by
  rcases hop with rfl | rfl <;> rfl

theorem alu8_sub_sbc_cp {op : AluOp} (hop : op = .sub ∨ op = .sbc ∨ op = .cp) (a x : Byte) (c : Bool) :
    alu8 op a x c = sub8 a x (decide (op = .sbc) && c) := by
  rcases hop with rfl | rfl | rfl <;> rfl

theorem add8_eq (a x : Byte) (cin : Bool) :
    add8 a x cin =
      (BitVec.ofNat 8 (a.toNat + x.toNat + cin.toNat),
        allFlags (decide ((a.toNat + x.toNat + cin.toNat) % 256 = 0)) false
          (decide (a.toNat % 16 + x.toNat % 16 + cin.toNat > 0xF)) (decide (a.toNat + x.toNat + cin.toNat > 0xFF))) := by
  have hzero : (BitVec.ofNat 8 (a.toNat + x.toNat + cin.toNat) = 0) = ((a.toNat + x.toNat + cin.toNat) % 256 = 0) := by
    rw [BitVec.toNat_eq, BitVec.toNat_ofNat]
    rfl
  simp only [add8, beq_eq_decide, hzero]

theorem sub8_eq (a x : Byte) (cin : Bool) :
    sub8 a x cin =
      (BitVec.ofInt 8 ((a.toNat : Int) - x.toNat - cin.toNat),
        allFlags (decide (BitVec.ofInt 8 ((a.toNat : Int) - x.toNat - cin.toNat) = 0)) true
          (decide (a.toNat % 16 < x.toNat % 16 + cin.toNat)) (decide (a.toNat < x.toNat + cin.toNat))) := by
  have hr : a - x - BitVec.ofNat 8 cin.toNat = BitVec.ofInt 8 ((a.toNat : Int) - x.toNat - cin.toNat) := by
    rw [ofInt_sub, ofInt_sub, ofInt_toNat, ofInt_toNat, BitVec.ofInt_natCast]
  simp only [sub8, beq_eq_decide, hr]

/-! ## The operand forms of the ALU operations (R252) -/

/-- The cycles an ALU instruction counts after its fetch: those of the read of (HL). -/
def aluReadCycles : Forms.AluSrc → Nat
  | .reg _ => 0
  | .atHL => 4
  | .imm _ => 0

theorem aluCycles_eq (op : AluOp) (x : Forms.AluSrc) :
    aluCycles x = 4 * (aluBytes op x).length + aluReadCycles x := by
  cases x <;> rfl

theorem encodes_alu (op : AluOp) (x : Forms.AluSrc) : encodes (aluBytes op x) (Forms.alu op x) := by
  cases x with
  | reg r => cases op <;> cases r <;> exact encodes_of_encode_eq rfl
  | atHL => cases op <;> exact encodes_of_encode_eq rfl
  | imm d8 => cases op <;> exact encodes_of_encode_eq rfl

/-- The three forms run one operation, on their operand. -/
theorem exec_alu (op : AluOp) (x : Forms.AluSrc) (s : State) :
    exec (Forms.alu op x) s = .next (aluWith op (aluOperand x s) (tick (aluReadCycles x) s)) := by
  cases x with
  | reg r => cases op <;> cases r <;> rfl
  | atHL => cases op <;> rfl
  | imm d8 => cases op <;> rfl

/-- CP writes A with the value it had. -/
theorem aluWith_eq (op : AluOp) (x : Byte) (s : State) :
    aluWith op x s =
      setFlags (alu8 op s.regs.a x (flagC s)).2
        (writeReg8 .a (if op = .cp then s.regs.a else (alu8 op s.regs.a x (flagC s)).1) s) := by
  cases op <;> rfl

/-- An ALU instruction whose operation gives the result `r` and these four flags. -/
theorem alu_of_alu8 {op : AluOp} {x : Forms.AluSrc} {s : State} {r : Byte} {z n h c : Bool}
    (hop : alu8 op s.regs.a (aluOperand x s) (flagC s) = (r, allFlags z n h c)) :
    ∃ t, exec (Forms.alu op x) s = .next t ∧ t.regs.a = (if op = .cp then s.regs.a else r) ∧ flagsAre z n h c t ∧
      regsKeptExcept [.a] s t ∧ onlyRegsChange s t ∧ takes (aluCycles x) (aluBytes op x).length s t := by
  have hstate : aluWith op (aluOperand x s) (tick (aluReadCycles x) s) =
      setFlags (allFlags z n h c) (writeReg8 .a (if op = .cp then s.regs.a else r) (tick (aluReadCycles x) s)) := by
    rw [aluWith_eq, tick_regs, show flagC (tick (aluReadCycles x) s) = flagC s from rfl, hop]
  rw [aluCycles_eq op x]
  exact writesReg8AndFlags_of_exec (rd := .a) _ _ ((exec_alu op x s).trans (congrArg _ hstate))

/-! ## AND, XOR and OR (R255) -/

/-- A bitwise operation, given as its table `g` on one bit. -/
theorem alu8_logic {op : AluOp} {g : Bool → Bool → Bool}
    (hop : (op = .and ∧ g = fun p q => p && q) ∨ (op = .xor ∧ g = fun p q => p != q) ∨
      (op = .or ∧ g = fun p q => p || q))
    (a x : Byte) (c : Bool) :
    ∃ r : Byte, alu8 op a x c = (r, allFlags (decide (r = 0)) false (decide (op = .and)) false) ∧
      ∀ k, r.getLsbD k = g (a.getLsbD k) (x.getLsbD k) := by
  rcases hop with ⟨rfl, rfl⟩ | ⟨rfl, rfl⟩ | ⟨rfl, rfl⟩
  · exact ⟨a &&& x, rfl, fun _ => BitVec.getLsbD_and⟩
  · exact ⟨a ^^^ x, rfl, fun _ => BitVec.getLsbD_xor⟩
  · exact ⟨a ||| x, rfl, fun _ => BitVec.getLsbD_or⟩

/-! ## INC and DEC (R284 to R287) -/

theorem inc8_eq (v : Byte) :
    inc8 v =
      (v + 1, { z := some (decide (v = 0xFF)), n := some false, h := some (decide (v.toNat % 16 = 0xF)), c := none }) := by
  have hzero : (v + 1 = 0) = (v = 0xFF) := propext add_eq_zero_iff_eq_neg
  simp only [inc8, beq_eq_decide, hzero]

theorem dec8_eq (v : Byte) :
    dec8 v =
      (v - 1, { z := some (decide (v = 0x01)), n := some true, h := some (decide (v.toNat % 16 = 0x0)), c := none }) := by
  have hzero : (v - 1 = 0) = (v = 0x01) := propext sub_eq_zero
  simp only [dec8, beq_eq_decide, hzero]

theorem exec_inc8_reg (r : Reg8) (s : State) : exec (Forms.inc8 (.reg r)) s = .next (modifyReg inc8 r s) := by
  cases r <;> rfl

theorem exec_dec8_reg (r : Reg8) (s : State) : exec (Forms.dec8 (.reg r)) s = .next (modifyReg dec8 r s) := by
  cases r <;> rfl

theorem exec_inc_atHL (s : State) : exec .inc_atHL s = .next (modifyAtHL inc8 s) := rfl

theorem exec_dec_atHL (s : State) : exec .dec_atHL s = .next (modifyAtHL dec8 s) := rfl

theorem encodes_inc8_reg (r : Reg8) : encodes [0x04 + 8 * Forms.reg8Code r] (Forms.inc8 (.reg r)) := by
  cases r <;> exact encodes_of_encode_eq rfl

theorem encodes_dec8_reg (r : Reg8) : encodes [0x05 + 8 * Forms.reg8Code r] (Forms.dec8 (.reg r)) := by
  cases r <;> exact encodes_of_encode_eq rfl

theorem modifyReg_eq {f : Byte → Byte × FlagWrite} {r : Reg8} {s : State} {v : Byte} {w : FlagWrite}
    (hf : f (readReg8 r s) = (v, w)) : modifyReg f r s = setFlags w (writeReg8 r v (tick 0 s)) := by
  rw [modifyReg, hf]
  rfl

/-- One read and one write of the same address. -/
theorem modifyAtHL_eq {f : Byte → Byte × FlagWrite} {s : State} {v : Byte} {w : FlagWrite}
    (hf : f (busRead (readReg16 .hl s) s) = (v, w)) :
    modifyAtHL f s = setFlags w (memWrite (readReg16 .hl s) v (tick 4 s)) := by
  simp only [modifyAtHL, memRead, hlAddr, readReg16_tick, hf]

/-! ## CPL, SCF and CCF (R289 to R291) -/

theorem exec_cpl (s : State) :
    exec .cpl s = .next (setFlags { z := none, n := some true, h := some true, c := none }
      (writeReg8 .a (s.regs.a ^^^ BitVec.allOnes 8) (tick 0 s))) := rfl

theorem exec_scf (s : State) :
    exec .scf s = .next (setFlags { z := none, n := some false, h := some false, c := some true } s) := rfl

theorem exec_ccf (s : State) :
    exec .ccf s = .next (setFlags { z := none, n := some false, h := some false, c := some (!flagC s) } s) := rfl

/-! ## DAA (R288) -/

/-- Whether DAA corrects the low digit. -/
def daaLow (a : Byte) (n h : Bool) : Bool := if n then h else h || decide (a.toNat % 16 > 9)

/-- Whether DAA corrects the high digit; also the carry it leaves. -/
def daaHigh (a : Byte) (n c : Bool) : Bool := if n then c else c || decide (a.toNat > 0x99)

/-- The correction of the digits: the two parts have no bit in common, so they add. -/
def daaCorrection (low high : Bool) : Int := (if low then 0x06 else 0) + (if high then 0x60 else 0)

/-- The corrected byte: the correction added after an addition, subtracted after a subtraction. -/
def daaResult (a : Byte) (n : Bool) (adj : Int) : Byte :=
  BitVec.ofInt 8 (if n then (a.toNat : Int) - adj else (a.toNat : Int) + adj)

theorem ofInt_daaCorrection (low high : Bool) :
    BitVec.ofInt 8 (daaCorrection low high) = (if low then 0x06 else 0) ||| (if high then 0x60 else 0) := by
  cases low <;> cases high <;> rfl

theorem daa8_eq (a : Byte) (n h c : Bool) :
    daa8 a n h c =
      (daaResult a n (daaCorrection (daaLow a n h) (daaHigh a n c)),
        { z := some (decide (daaResult a n (daaCorrection (daaLow a n h) (daaHigh a n c)) = 0)), n := none,
          h := some false, c := some (daaHigh a n c) }) := by
  cases n with
  | true =>
    have hr : daaResult a true (daaCorrection h c) = a - ((if h then 0x06 else 0) ||| (if c then 0x60 else 0)) := by
      rw [daaResult, if_pos rfl, ofInt_sub, ofInt_toNat, ofInt_daaCorrection]
    rw [show daaLow a true h = h from rfl, show daaHigh a true c = c from rfl, hr]
    rfl
  | false =>
    have hr (low high : Bool) : daaResult a false (daaCorrection low high) =
        a + ((if low then 0x06 else 0) ||| (if high then 0x60 else 0)) := by
      rw [daaResult, if_neg Bool.false_ne_true, BitVec.ofInt_add, ofInt_toNat, ofInt_daaCorrection]
    rw [hr]
    rfl

theorem exec_daa (s : State) :
    exec .daa s =
      .next (setFlags (daa8 s.regs.a (flagN s) (flagH s) (flagC s)).2
        (writeReg8 .a (daa8 s.regs.a (flagN s) (flagH s) (flagC s)).1 (tick 0 s))) := rfl

end Sys2Proof.Machine

open Sys2Proof.Machine

/-- Settles O18: both operations are `Add8`, with the old carry for ADC alone. -/
theorem addWithAndWithoutCarry : Obligations.AddWithAndWithoutCarry := by
  refine fun op hop x => ⟨encodes_alu op x, fun s => ?_⟩
  have hne : op ≠ .cp := by rcases hop with rfl | rfl <;> nofun
  have halu := (alu8_add_adc hop s.regs.a (aluOperand x s) (flagC s)).trans (add8_eq _ _ _)
  rw [carryIn_toNat] at halu
  obtain ⟨t, hexec, ha, hrest⟩ := alu_of_alu8 halu
  exact ⟨t, hexec, ha.trans (if_neg hne), hrest⟩

/-- Settles O19: the three operations are `Sub8`, with the old carry for SBC alone; CP keeps A. -/
theorem subtractAndCompare : Obligations.SubtractAndCompare := by
  refine fun op hop x => ⟨encodes_alu op x, fun s => ?_⟩
  have halu := (alu8_sub_sbc_cp hop s.regs.a (aluOperand x s) (flagC s)).trans (sub8_eq _ _ _)
  rw [carryIn_toNat] at halu
  exact alu_of_alu8 halu

/-- Settles O20: the result of each operation bit by bit, H set by AND alone. -/
theorem logicOperations : Obligations.LogicOperations := by
  refine fun op g hop x => ⟨encodes_alu op x, fun s => ?_⟩
  obtain ⟨r, halu, hbits⟩ := alu8_logic hop s.regs.a (aluOperand x s) (flagC s)
  have hne : op ≠ .cp := by rcases hop with ⟨rfl, _⟩ | ⟨rfl, _⟩ | ⟨rfl, _⟩ <;> nofun
  obtain ⟨t, hexec, ha, hflags, hrest⟩ := alu_of_alu8 halu
  rw [if_neg hne] at ha
  exact ⟨t, hexec, fun k _ => ha ▸ hbits k, ha ▸ hflags, hrest⟩

/-- Settles O21: the register forms write one register and the flags; the (HL) forms make one read and one store to its
address. -/
theorem incrementAndDecrement8 : Obligations.IncrementAndDecrement8 := by
  refine fun s => ⟨fun r => ⟨⟨encodes_inc8_reg r, ?_⟩, ⟨encodes_dec8_reg r, ?_⟩⟩,
    ⟨encodes_of_encode_eq rfl, ?_⟩, ⟨encodes_of_encode_eq rfl, ?_⟩⟩
  · exact writesReg8AndFlags_of_exec 0 1 ((exec_inc8_reg r s).trans (congrArg _ (modifyReg_eq (inc8_eq _))))
  · exact writesReg8AndFlags_of_exec 0 1 ((exec_dec8_reg r s).trans (congrArg _ (modifyReg_eq (dec8_eq _))))
  · exact storesByteAndFlags_of_exec ((exec_inc_atHL s).trans (congrArg _ (modifyAtHL_eq (inc8_eq _))))
  · exact storesByteAndFlags_of_exec ((exec_dec_atHL s).trans (congrArg _ (modifyAtHL_eq (dec8_eq _))))

/-- Settles O22: both digits are tested in the value of A before the adjustment, and N chooses between the two branches. -/
theorem decimalAdjust : Obligations.DecimalAdjust := by
  refine ⟨encodes_of_encode_eq rfl, fun s => ?_⟩
  have hexec := exec_daa s
  rw [daa8_eq] at hexec
  exact writesReg8AndFlags_of_exec (rd := .a) 0 1 hexec

/-- Settles O24: CPL writes the complement of A and two flags; SCF and CCF write three flags. -/
theorem complementAndCarryFlags : Obligations.ComplementAndCarryFlags := by
  refine ⟨⟨encodes_of_encode_eq rfl, encodes_of_encode_eq rfl, encodes_of_encode_eq rfl⟩, fun s => ⟨?_, ?_, ?_⟩⟩
  · obtain ⟨t, hexec, ha, hrest⟩ := writesReg8AndFlags_of_exec 0 1 (exec_cpl s)
    have hnot : t.regs.a = ~~~s.regs.a := ha.trans BitVec.xor_allOnes
    refine ⟨t, hexec, fun k hk => ?_, hrest⟩
    rw [hnot, BitVec.getLsbD_not, decide_eq_true hk, Bool.true_and]
  · exact setsFlags_of_exec (exec_scf s)
  · exact setsFlags_of_exec (exec_ccf s)

end

section
/-! PROOF. The 16-bit arithmetic instructions (spec/43_alu16.md R300 to R302): `INC rr` and `DEC rr` by the one operation they share, and `ADD HL,rr`. -/

namespace Sys2Proof.Machine

/-! ## INC rr and DEC rr (R300, R301) -/

theorem exec_inc16 (rr : Reg16) (s : State) : exec (Forms.inc16 rr) s = .next (stepReg16 1 rr s) := by
  cases rr <;> rfl

theorem exec_dec16 (rr : Reg16) (s : State) : exec (Forms.dec16 rr) s = .next (stepReg16 (-1) rr s) := by
  cases rr <;> rfl

theorem encodes_inc16 (rr : Reg16) : encodes [0x03 + 16 * Forms.reg16Code rr] (Forms.inc16 rr) := by
  cases rr <;> exact encodes_of_encode_eq rfl

theorem encodes_dec16 (rr : Reg16) : encodes [0x0B + 16 * Forms.reg16Code rr] (Forms.dec16 rr) := by
  cases rr <;> exact encodes_of_encode_eq rfl

theorem readReg16_stepReg16_same (k : Word) (rr : Reg16) (s : State) :
    readReg16 rr (stepReg16 k rr s) = readReg16 rr s + k := by
  rw [stepReg16, readReg16_tick, readReg16_writeReg16_same]

theorem readReg16_stepReg16_other (k : Word) (rr q : Reg16) (s : State) (h : q ≠ rr) :
    readReg16 q (stepReg16 k rr s) = readReg16 q s := by
  rw [stepReg16, readReg16_tick, readReg16_writeReg16_other rr q _ s h]

theorem onlyRegsSpChange_stepReg16 (k : Word) (rr : Reg16) (s : State) : onlyRegsSpChange s (stepReg16 k rr s) :=
  onlyRegsSpChange_of_eq (by cases rr <;> rfl)

/-- An instruction that adds a constant, `n` as a natural number, to a pair or SP. -/
theorem stepsReg16_of_exec {i : Instr} {k : Word} {n : Nat} {rr : Reg16} {s : State} (hk : k.toNat = n)
    (hexec : exec i s = .next (stepReg16 k rr s)) :
    ∃ t, exec i s = .next t ∧ (readReg16 rr t).toNat = ((readReg16 rr s).toNat + n) % 65536 ∧
      (∀ q : Reg16, q ≠ rr → readReg16 q t = readReg16 q s) ∧ t.regs.a = s.regs.a ∧ flagsKept s t ∧
      onlyRegsSpChange s t ∧ takes 8 1 s t := by
  refine ⟨_, hexec, ?_, fun q hq => readReg16_stepReg16_other k rr q s hq, writeReg16_a rr _ s, writeReg16_f rr _ s,
    onlyRegsSpChange_stepReg16 k rr s, ?_⟩
  · rw [readReg16_stepReg16_same, BitVec.toNat_add, hk]
  · rw [takes, stepReg16, tick_stepCycles, writeReg16_stepCycles]

/-! ## ADD HL,rr (R302) -/

theorem exec_addHL (rr : Reg16) (s : State) : exec (Forms.addHL rr) s = .next (addToHL rr s) := by
  cases rr <;> rfl

theorem encodes_addHL (rr : Reg16) : encodes [0x09 + 16 * Forms.reg16Code rr] (Forms.addHL rr) := by
  cases rr <;> exact encodes_of_encode_eq rfl

/-- Both operands are read before HL is written. -/
theorem addToHL_eq (rr : Reg16) (s : State) :
    addToHL rr s =
      tick 4 (setFlags (add16 (readReg16 .hl s) (readReg16 rr s)).2
        (writeReg16 .hl (readReg16 .hl s + readReg16 rr s) s)) := rfl

theorem readReg16_hl_addToHL (rr : Reg16) (s : State) :
    readReg16 .hl (addToHL rr s) = BitVec.ofNat 16 ((readReg16 .hl s).toNat + (readReg16 rr s).toNat) := by
  rw [addToHL_eq, readReg16_tick, readReg16_setFlags, readReg16_writeReg16_same, BitVec.add_def]

theorem flagsAre_addToHL (rr : Reg16) (s : State) :
    flagsAre (flagZ s) false
      (decide ((readReg16 .hl s).toNat % 4096 + (readReg16 rr s).toNat % 4096 > 0x0FFF))
      (decide ((readReg16 .hl s).toNat + (readReg16 rr s).toNat > 0xFFFF)) (addToHL rr s) :=
  flagsAre_setFlags_of_f_eq (add16 (readReg16 .hl s) (readReg16 rr s)).2 (writeReg16_f .hl _ s)

theorem regsKeptExcept_addToHL (rr : Reg16) (s : State) : regsKeptExcept [.h, .l] s (addToHL rr s) := by
  intro r hr
  rw [addToHL_eq, readReg8_tick, readReg8_setFlags]
  exact regsKeptExcept_writeReg16 .hl _ s r hr

end Sys2Proof.Machine

open Sys2Proof.Machine

/-- Settles O25: both instructions add a constant modulo 2^16, 1 and 2^16 - 1. -/
theorem incrementAndDecrement16 : Obligations.IncrementAndDecrement16 :=
  fun rr => ⟨⟨encodes_inc16 rr, fun s => stepsReg16_of_exec rfl (exec_inc16 rr s)⟩,
    ⟨encodes_dec16 rr, fun s => stepsReg16_of_exec rfl (exec_dec16 rr s)⟩⟩

/-- Settles O26: the sum of the old HL and the operand goes to HL, then the flags are written without Z. -/
theorem addToHL : Obligations.AddToHL :=
  fun rr => ⟨encodes_addHL rr, fun s => ⟨_, exec_addHL rr s, readReg16_hl_addToHL rr s, flagsAre_addToHL rr s,
    regsKeptExcept_addToHL rr s, onlyRegsChange_of_eq rfl, rfl⟩⟩

end

section
/-! PROOF. The rotates, shifts and bit operations (spec/44_rotate_shift_bit.md R311 to R339): the shift functions as arithmetic, the one-bit masks bit by bit, then each instruction by the operation its arm of `exec` runs. -/

namespace Sys2Proof.Machine

/-! ## The shift functions as arithmetic (R311 to R313) -/

theorem toNat_append_eq_add {m n : Nat} (x : BitVec m) (y : BitVec n) :
    (x ++ y).toNat = x.toNat * 2 ^ n + y.toNat := by
  rw [BitVec.toNat_append, ← Nat.shiftLeft_add_eq_or_of_lt y.isLt, Nat.shiftLeft_eq]

theorem rotateResult_lt (op : RotOp) (v : Byte) (c : Bool) : (rotateResult op v.toNat c.toNat).1 < 256 := by
  have hv := v.isLt
  have hc := c.toNat_le
  cases op <;> simp only [rotateResult] <;> omega

/-- The result is a concatenation of parts of the byte and the old carry, so a sum of them with their weights. -/
theorem toNat_rot8 (op : RotOp) (v : Byte) (c : Bool) :
    (rot8 op v c).1.toNat = (rotateResult op v.toNat c.toNat).1 := by
  have hv := v.isLt
  cases op <;>
    simp only [rot8, rotateResult, toNat_append_eq_add, BitVec.extractLsb'_toNat, BitVec.toNat_ofBool,
      BitVec.toNat_ofNat, Nat.shiftRight_eq_div_pow] <;>
    omega

/-- The bit shifted out is the top or the bottom one; SWAP shifts none out. -/
theorem rot8_carry (op : RotOp) (v : Byte) (c : Bool) :
    (rot8 op v c).2 = decide ((rotateResult op v.toNat c.toNat).2 = 1) := by
  have hv := v.isLt
  have htop : v.getLsbD 7 = decide (v.toNat / 128 = 1) :=
    Nat.testBit_eq_decide_div_mod_eq.trans (decide_eq_decide.mpr (by omega))
  have hbottom : v.getLsbD 0 = decide (v.toNat % 2 = 1) :=
    Nat.testBit_eq_decide_div_mod_eq.trans (decide_eq_decide.mpr (by omega))
  cases op with
  | rlc | rl | sla => exact htop
  | rrc | rr | sra | srl => exact hbottom
  | swap => rfl

theorem rot8_eq (op : RotOp) (v : Byte) (c : Bool) :
    rot8 op v c =
      (BitVec.ofNat 8 (rotateResult op v.toNat c.toNat).1, decide ((rotateResult op v.toNat c.toNat).2 = 1)) := by
  rw [← toNat_rot8, ← rot8_carry, BitVec.ofNat_toNat, BitVec.setWidth_eq]

/-- Z of a shift or rotate, read off the result as a number: it is below 256. -/
theorem rotFlags_rotateResult (op : RotOp) (v : Byte) (c d : Bool) :
    rotFlags (BitVec.ofNat 8 (rotateResult op v.toNat c.toNat).1) d =
      allFlags (decide ((rotateResult op v.toNat c.toNat).1 = 0)) false false d := by
  have hzero : (BitVec.ofNat 8 (rotateResult op v.toNat c.toNat).1 = 0) = ((rotateResult op v.toNat c.toNat).1 = 0) := by
    rw [BitVec.toNat_eq, BitVec.toNat_ofNat, Nat.mod_eq_of_lt (rotateResult_lt op v c)]
    rfl
  simp only [rotFlags, beq_eq_decide, hzero]

/-! ## The one-bit masks (R336, R338) -/

theorem getLsbD_bitMask (b : Fin 8) (k : Nat) : (bitMask b.val).getLsbD k = decide (k = b.val) := by
  rw [bitMask, ← BitVec.twoPow_eq, BitVec.getLsbD_twoPow, decide_eq_true b.isLt, Bool.true_and]
  exact decide_eq_decide.mpr eq_comm

/-- RES clears its bit and keeps the others. -/
theorem getLsbD_and_not_bitMask (b : Fin 8) (v : Byte) {k : Nat} (hk : k < 8) :
    (v &&& ~~~bitMask b.val).getLsbD k = if k = b.val then false else v.getLsbD k := by
  rw [BitVec.getLsbD_and, BitVec.getLsbD_not, getLsbD_bitMask, decide_eq_true hk]
  by_cases h : k = b.val <;> simp [h]

/-- SET sets its bit and keeps the others. -/
theorem getLsbD_or_bitMask (b : Fin 8) (v : Byte) (k : Nat) :
    (v ||| bitMask b.val).getLsbD k = if k = b.val then true else v.getLsbD k := by
  rw [BitVec.getLsbD_or, getLsbD_bitMask]
  by_cases h : k = b.val <;> simp [h]

/-! ## Instructions by the operation they run -/

/-- A fetched byte, counted before the meaning runs (log entry 13), adds 4 cycles to the total. -/
theorem takes_succ {total len : Nat} {s t : State} (h : takes total len s t) : takes (total + 4) (len + 1) s t := by
  rw [takes] at h ⊢
  omega

theorem storesByte_memWrite_tick (a : Word) (v : Byte) (n : Nat) (s : State) :
    storesByte a v s (memWrite a v (tick n s)) := by
  rw [memWrite_eq, busWrite_tick]
  exact storesByte_of_busWrite a v s _ _

/-- An instruction of the CB table that reads a byte, stores one and does nothing else. -/
theorem readsAndStores_of_exec {i : Instr} {a : Word} {v : Byte} {s : State}
    (hexec : exec i s = .next (memWrite a v (tick 4 s))) :
    ∃ t, exec i s = .next t ∧ storesByte a v s t ∧ t.regs = s.regs ∧ takes 16 2 s t := by
  refine ⟨_, hexec, storesByte_memWrite_tick a v 4 s, memWrite_regs a v (tick 4 s), ?_⟩
  rw [takes, memWrite_stepCycles, tick_stepCycles]

/-! ## Rotates and shifts (R314 to R333) -/

theorem exec_rot_reg (op : RotOp) (r : Reg8) (s : State) :
    exec (Forms.rot op (.reg r)) s = .next (rotReg op r s) := by
  cases op <;> cases r <;> rfl

theorem exec_rot_atHL (op : RotOp) (s : State) : exec (Forms.rot op .atHL) s = .next (rotAtHL op s) := by
  cases op <;> rfl

theorem encodes_rot_reg (op : RotOp) (r : Reg8) :
    encodes [0xCB, 8 * Forms.rotCode op + Forms.reg8Code r] (Forms.rot op (.reg r)) := by
  cases op <;> cases r <;> exact encodes_of_encode_eq rfl

theorem encodes_rot_atHL (op : RotOp) : encodes [0xCB, 8 * Forms.rotCode op + 6] (Forms.rot op .atHL) := by
  cases op <;> exact encodes_of_encode_eq rfl

theorem rotA_eq {op : RotOp} {s : State} {v : Byte} {c : Bool} (hop : rot8 op s.regs.a (flagC s) = (v, c)) :
    rotA op s = setFlags (allFlags false false false c) (writeReg8 .a v (tick 0 s)) := by
  rw [rotA, hop]
  rfl

theorem rotReg_eq {op : RotOp} {r : Reg8} {s : State} {v : Byte} {c : Bool}
    (hop : rot8 op (readReg8 r s) (flagC s) = (v, c)) :
    rotReg op r s = setFlags (rotFlags v c) (writeReg8 r v (tick 0 s)) := by
  rw [rotReg, hop]
  rfl

/-- One read and one write of the same address. -/
theorem rotAtHL_eq {op : RotOp} {s : State} {v : Byte} {c : Bool}
    (hop : rot8 op (busRead (readReg16 .hl s) s) (flagC s) = (v, c)) :
    rotAtHL op s = setFlags (rotFlags v c) (memWrite (readReg16 .hl s) v (tick 4 s)) := by
  have hflag : flagC (tick 4 s) = flagC s := rfl
  simp only [rotAtHL, memRead, hlAddr, readReg16_tick, hflag, hop]

/-- A rotate of A: Z = 0 whatever the result is. -/
theorem rotatesA_of_exec {i : Instr} {op : RotOp} {s : State} (hexec : exec i s = .next (rotA op s)) :
    ∃ t, exec i s = .next t ∧
      t.regs.a = BitVec.ofNat 8 (rotateResult op s.regs.a.toNat (s.regs.f.getLsbD 4).toNat).1 ∧
      flagsAre false false false (decide ((rotateResult op s.regs.a.toNat (s.regs.f.getLsbD 4).toNat).2 = 1)) t ∧
      regsKeptExcept [.a] s t ∧ onlyRegsChange s t ∧ takes 4 1 s t := by
  rw [rotA_eq (rot8_eq op s.regs.a (flagC s))] at hexec
  exact writesReg8AndFlags_of_exec (rd := .a) 0 1 hexec

/-! ## BIT (R334, R335) -/

/-- The cycles `BIT` counts after its fetch: those of the read of (HL). -/
def bitTestReadCycles : Operand8 → Nat
  | .reg _ => 0
  | .atHL => 4

theorem bitTest_cycles_eq (o : Operand8) : (if o = .atHL then 12 else 8) = 8 + bitTestReadCycles o := by
  cases o <;> rfl

/-- Both forms write the flags of their operand and nothing else. -/
theorem exec_bit (b : Fin 8) (o : Operand8) (s : State) :
    exec (Forms.bit b o) s = .next (setFlags (bitTestFlags b.val (operand8Value o s)) (tick (bitTestReadCycles o) s)) := by
  cases o with
  | reg r => fin_cases b <;> cases r <;> rfl
  | atHL => fin_cases b <;> rfl

theorem encodes_bit (b : Fin 8) (o : Operand8) :
    encodes [0xCB, 0x40 + 8 * BitVec.ofNat 8 b.val + Forms.operand8Code o] (Forms.bit b o) := by
  cases o with
  | reg r => fin_cases b <;> cases r <;> exact encodes_of_encode_eq rfl
  | atHL => fin_cases b <;> exact encodes_of_encode_eq rfl

/-! ## RES and SET (R336 to R339) -/

theorem exec_res_reg (b : Fin 8) (r : Reg8) (s : State) :
    exec (Forms.res b (.reg r)) s = .next (writeReg8 r (readReg8 r s &&& ~~~bitMask b.val) (tick 0 s)) := by
  fin_cases b <;> cases r <;> rfl

theorem exec_set_reg (b : Fin 8) (r : Reg8) (s : State) :
    exec (Forms.set b (.reg r)) s = .next (writeReg8 r (readReg8 r s ||| bitMask b.val) (tick 0 s)) := by
  fin_cases b <;> cases r <;> rfl

theorem exec_res_atHL (b : Fin 8) (s : State) :
    exec (Forms.res b .atHL) s =
      .next (memWrite (readReg16 .hl s) (busRead (readReg16 .hl s) s &&& ~~~bitMask b.val) (tick 4 s)) := by
  fin_cases b <;> rfl

theorem exec_set_atHL (b : Fin 8) (s : State) :
    exec (Forms.set b .atHL) s =
      .next (memWrite (readReg16 .hl s) (busRead (readReg16 .hl s) s ||| bitMask b.val) (tick 4 s)) := by
  fin_cases b <;> rfl

theorem encodes_res_reg (b : Fin 8) (r : Reg8) :
    encodes [0xCB, 0x80 + 8 * BitVec.ofNat 8 b.val + Forms.reg8Code r] (Forms.res b (.reg r)) := by
  fin_cases b <;> cases r <;> exact encodes_of_encode_eq rfl

theorem encodes_set_reg (b : Fin 8) (r : Reg8) :
    encodes [0xCB, 0xC0 + 8 * BitVec.ofNat 8 b.val + Forms.reg8Code r] (Forms.set b (.reg r)) := by
  fin_cases b <;> cases r <;> exact encodes_of_encode_eq rfl

theorem encodes_res_atHL (b : Fin 8) : encodes [0xCB, 0x86 + 8 * BitVec.ofNat 8 b.val] (Forms.res b .atHL) := by
  fin_cases b <;> exact encodes_of_encode_eq rfl

theorem encodes_set_atHL (b : Fin 8) : encodes [0xCB, 0xC6 + 8 * BitVec.ofNat 8 b.val] (Forms.set b .atHL) := by
  fin_cases b <;> exact encodes_of_encode_eq rfl

end Sys2Proof.Machine

open Sys2Proof.Machine

/-- Settles O27: the four instructions rotate A by the functions of the CB table, with Z = 0 in place of the result's. -/
theorem rotateAccumulator : Obligations.RotateAccumulator := by
  intro s
  simp only [List.forall_mem_cons, List.not_mem_nil, IsEmpty.forall_iff, implies_true, and_true]
  exact ⟨⟨encodes_of_encode_eq rfl, rotatesA_of_exec rfl⟩, ⟨encodes_of_encode_eq rfl, rotatesA_of_exec rfl⟩,
    ⟨encodes_of_encode_eq rfl, rotatesA_of_exec rfl⟩, ⟨encodes_of_encode_eq rfl, rotatesA_of_exec rfl⟩⟩

/-- Settles O28: the register takes the function's result, and Z is read off the result, which is below 256. -/
theorem rotateRegister : Obligations.RotateRegister := by
  refine fun op q => ⟨encodes_rot_reg op q, fun s => ?_⟩
  have hexec := exec_rot_reg op q s
  rw [rotReg_eq (rot8_eq op (readReg8 q s) (flagC s)), rotFlags_rotateResult] at hexec
  exact writesReg8AndFlags_of_exec 0 2 hexec

/-- Settles O29: one read of HL and one store of the function's result to the same address, then the flags. -/
theorem rotateMemory : Obligations.RotateMemory := by
  refine fun op => ⟨encodes_rot_atHL op, fun s => ?_⟩
  have hexec := exec_rot_atHL op s
  rw [rotAtHL_eq (rot8_eq op (busRead (readReg16 .hl s) s) (flagC s)), rotFlags_rotateResult] at hexec
  obtain ⟨t, ht, hstore, hflags, hregs, htakes⟩ := storesByteAndFlags_of_exec hexec
  exact ⟨t, ht, hstore, hflags, hregs, takes_succ htakes⟩

/-- Settles O30: both forms write the flags alone, from their operand. -/
theorem bitTest : Obligations.BitTest := by
  refine fun b o => ⟨encodes_bit b o, fun s => ⟨_, exec_bit b o s, flagsAre_setFlags_of_f_eq _ rfl, fun r _ => ?_,
    onlyRegsChange_trans (onlyRegsChange_tick _ s) (onlyRegsChange_setFlags _ _), ?_⟩⟩
  · rw [readReg8_setFlags, readReg8_tick]
  · rw [bitTest_cycles_eq, takes, setFlags_stepCycles, tick_stepCycles]
    omega

/-- Settles O31: the register forms write one register, its bits read off the mask; the (HL) forms are one read and one
store to its address, whatever the bit was. -/
theorem bitResetAndSet : Obligations.BitResetAndSet := by
  refine fun b => ⟨fun r => ⟨encodes_res_reg b r, encodes_set_reg b r, fun s => ⟨?_, ?_⟩⟩, encodes_res_atHL b,
    encodes_set_atHL b, fun s => ⟨readsAndStores_of_exec (exec_res_atHL b s), readsAndStores_of_exec (exec_set_atHL b s)⟩⟩
  · obtain ⟨t, ht, hr, hrest⟩ := writesReg8_of_exec 0 2 (exec_res_reg b r s)
    exact ⟨t, ht, fun k hk => hr ▸ getLsbD_and_not_bitMask b _ hk, hrest⟩
  · obtain ⟨t, ht, hr, hrest⟩ := writesReg8_of_exec 0 2 (exec_set_reg b r s)
    exact ⟨t, ht, fun k _ => hr ▸ getLsbD_or_bitMask b _ k, hrest⟩

end

section
/-! PROOF. The jumps, the calls and RST (spec/45_control_transfer.md R351 to R357, R360): a conditional form by the two states its condition chooses between, then each instruction by the operation its arm of `exec` runs. -/

namespace Sys2Proof.Machine

/-! ## The conditions (R165) -/

theorem condHolds_eq_taken (cc : Cond) (s : State) : condHolds cc s = taken cc s := by
  cases cc <;> rfl

/-- A conditional instruction answers the one state or the other, as its condition says. -/
theorem branches_of_exec {i : Instr} {cc : Cond} {s u v : State}
    (hexec : exec i s = .next (if condHolds cc s then u else v)) :
    ∃ t, exec i s = .next t ∧ (taken cc s = true → t = u) ∧ (taken cc s = false → t = v) := by
  rw [condHolds_eq_taken] at hexec
  exact ⟨_, hexec, fun h => by rw [h, if_pos rfl], fun h => by rw [h, if_neg Bool.false_ne_true]⟩

/-! ## The jumps (R351 to R355) -/

/-- No read sees PC or the cycle count, so the equality of the other fields is the whole frame. -/
theorem onlyPcChanges_of_eq {s t : State} (h : t = { s with pc := t.pc, stepCycles := t.stepCycles }) :
    onlyPcChanges s t :=
  ⟨h, fun x => by rw [h]; rfl⟩

theorem onlyPcChanges_jumpAbs (a : Word) (s : State) : onlyPcChanges s (jumpAbs a s) := onlyPcChanges_of_eq rfl

/-- A jump of `len` bytes, which counts 4 cycles after its fetch. -/
theorem takes_jumpAbs (len : Nat) (a : Word) (s : State) : takes (4 * len + 4) len s (jumpAbs a s) := by
  rw [takes, jumpAbs, tick_stepCycles, jumpTo_stepCycles]
  omega

/-- An instruction of `len` bytes that jumps. -/
theorem jumps_of_exec {i : Instr} {a : Word} {s : State} (len : Nat) (hexec : exec i s = .next (jumpAbs a s)) :
    ∃ t, exec i s = .next t ∧ t.pc = a ∧ onlyPcChanges s t ∧ takes (4 * len + 4) len s t :=
  ⟨_, hexec, rfl, onlyPcChanges_jumpAbs a s, takes_jumpAbs len a s⟩

/-- An instruction of `len` bytes that jumps when its condition holds, and else counts nothing after its fetch. -/
theorem jumpsIf_of_exec {i : Instr} {cc : Cond} {a : Word} {s : State} (len : Nat)
    (hexec : exec i s = .next (jumpAbsIf cc a s)) :
    ∃ t, exec i s = .next t ∧ onlyPcChanges s t ∧
      (taken cc s = true → t.pc = a ∧ takes (4 * len + 4) len s t) ∧
      (taken cc s = false → t.pc = s.pc ∧ takes (4 * len) len s t) := by
  obtain ⟨t, ht, htaken, hnot⟩ := branches_of_exec hexec
  refine ⟨t, ht, ?_, fun hcc => ?_, fun hcc => ?_⟩
  · cases hcc : taken cc s with
    | true => exact htaken hcc ▸ onlyPcChanges_jumpAbs a s
    | false => exact hnot hcc ▸ onlyPcChanges_of_eq rfl
  · rw [htaken hcc]
    exact ⟨rfl, takes_jumpAbs len a s⟩
  · rw [hnot hcc]
    exact ⟨rfl, rfl⟩

theorem exec_jpIf (cc : Cond) (a : Word) (s : State) : exec (Forms.jpIf cc a) s = .next (jumpAbsIf cc a s) := by
  cases cc <;> rfl

/-- A relative jump is the absolute one to its sum (R354, R355). -/
theorem exec_jrIf (cc : Cond) (e : Byte) (s : State) :
    exec (Forms.jrIf cc e) s = .next (jumpAbsIf cc (addDisplacement s.pc e) s) := by
  cases cc <;> rfl

theorem encodes_jpIf (cc : Cond) (a : Word) :
    encodes [0xC2 + 8 * Forms.condCode cc, a.extractLsb' 0 8, a.extractLsb' 8 8] (Forms.jpIf cc a) := by
  cases cc <;> exact encodes_of_encode_eq rfl

theorem encodes_jrIf (cc : Cond) (e : Byte) : encodes [0x20 + 8 * Forms.condCode cc, e] (Forms.jrIf cc e) := by
  cases cc <;> exact encodes_of_encode_eq rfl

/-! ## CALL and RST (R356, R357, R360) -/

/-- A push keeps its frame, which leaves PC open, when a jump follows it. -/
theorem pushesWord_jumpTo {v : Word} {s t : State} (a : Word) (h : pushesWord v s t) :
    pushesWord v s (jumpTo a t) := by
  obtain ⟨⟨hstate, hmem⟩, hsp⟩ := h
  exact ⟨⟨congrArg (jumpTo a) hstate, hmem⟩, hsp⟩

/-- A call of `len` bytes, which counts 12 cycles after its fetch. -/
theorem takes_callAbs (len : Nat) (a : Word) (s : State) : takes (4 * len + 12) len s (callAbs a s) := by
  rw [takes, callAbs, jumpTo_stepCycles, push16_stepCycles, tick_stepCycles]
  omega

/-- All a call of `len` bytes does (R356). -/
theorem callAbs_parts (len : Nat) (a : Word) (s : State) :
    pushesWord s.pc s (callAbs a s) ∧ (callAbs a s).pc = a ∧ (callAbs a s).regs = s.regs ∧
      takes (4 * len + 12) len s (callAbs a s) :=
  ⟨pushesWord_jumpTo a (pushesWord_push16_tick s.pc 4 s), jumpTo_pc a _, push16_regs s.pc (tick 4 s),
    takes_callAbs len a s⟩

theorem exec_callIf (cc : Cond) (a : Word) (s : State) : exec (Forms.callIf cc a) s = .next (callAbsIf cc a s) := by
  cases cc <;> rfl

theorem exec_rst (y : Fin 8) (s : State) :
    exec (Forms.rst y) s = .next (callAbs (BitVec.ofNat 16 (8 * y.val)) s) := by
  fin_cases y <;> rfl

theorem encodes_callIf (cc : Cond) (a : Word) :
    encodes [0xC4 + 8 * Forms.condCode cc, a.extractLsb' 0 8, a.extractLsb' 8 8] (Forms.callIf cc a) := by
  cases cc <;> exact encodes_of_encode_eq rfl

theorem encodes_rst (y : Fin 8) : encodes [0xC7 + 8 * BitVec.ofNat 8 y.val] (Forms.rst y) := by
  fin_cases y <;> exact encodes_of_encode_eq rfl

end Sys2Proof.Machine

open Sys2Proof.Machine

/-- Settles O32: every form but JP HL is 4 cycles and a write of PC, made always or when the condition holds; JP HL is the
write alone. -/
theorem jumps : Obligations.Jumps := by
  refine fun s => ⟨⟨encodes_of_encode_eq rfl, _, rfl, rfl, onlyPcChanges_of_eq rfl, rfl⟩, fun a => ?_, fun e => ?_⟩
  · exact ⟨encodes_of_encode_eq rfl, jumps_of_exec 3 rfl,
      fun cc => ⟨encodes_jpIf cc a, jumpsIf_of_exec 3 (exec_jpIf cc a s)⟩⟩
  · rw [← addDisplacement_eq_ofInt]
    exact ⟨encodes_of_encode_eq rfl, jumps_of_exec 2 rfl,
      fun cc => ⟨encodes_jrIf cc e, jumpsIf_of_exec 2 (exec_jrIf cc e s)⟩⟩

/-- Settles O33: CALL, a taken CALL cc and RST are one operation, `callAbs`; an untaken CALL cc is no operation. -/
theorem calls : Obligations.Calls := by
  refine fun s => ⟨fun a => ⟨encodes_of_encode_eq rfl, ⟨_, rfl, callAbs_parts 3 a s⟩,
    fun cc => ⟨encodes_callIf cc a, ?_⟩⟩, fun y => ⟨encodes_rst y, _, exec_rst y s, callAbs_parts 1 _ s⟩⟩
  obtain ⟨t, ht, htaken, hnot⟩ := branches_of_exec (exec_callIf cc a s)
  exact ⟨t, ht, fun hcc => htaken hcc ▸ callAbs_parts 3 a s, fun hcc => ⟨hnot hcc, hnot hcc ▸ rfl⟩⟩

end

section
/-! PROOF. The deferred enable of `EI` (spec/46_system.md R373) over a whole step: a step ends in phases 4 to 8, whose devices leave the CPU alone, and with IME 0 no interrupt is entered in them. -/

namespace Sys2Proof.Machine

/-! ## The devices (R400, R440) -/

/-- Everything phases 6 to 8 may change: the PPU, the timer, the DMA engine and OAM, IF and the two output pulses. -/
def devicesOnly (s t : State) : Prop :=
  t = { s with
    ppu := t.ppu
    timer := t.timer
    dma := t.dma
    oam := t.oam
    ifReg := t.ifReg
    frameValid := t.frameValid
    blankFrame := t.blankFrame }

theorem devicesOnly_trans {s t u : State} (h1 : devicesOnly s t) (h2 : devicesOnly t u) : devicesOnly s u := by
  unfold devicesOnly at *
  rw [h2, h1]

theorem devicesOnly_of_ppuOnly {s t : State} (h : ppuOnly s t) : devicesOnly s t := by
  unfold devicesOnly
  rw [h]

theorem devicesOnly_of_timerOnly {s t : State} (h : timerOnly s t) : devicesOnly s t := by
  unfold devicesOnly
  rw [h]

theorem devicesOnly_of_dmaOnly {s t : State} (h : dmaOnly s t) : devicesOnly s t := by
  unfold devicesOnly
  rw [h]

/-- The frame of `TimerAdvance` (R500, R502). -/
theorem timerAdvance_timerOnly (n : Nat) (s : State) : timerOnly s (timerAdvance n s) := by
  unfold timerAdvance
  cases s.cfg.timerMode with
  | reference => rfl
  | full =>
    unfold timaAdvance
    refine timerOnly_trans (t := { s with timer := { s.timer with div := s.timer.div + BitVec.ofNat 16 n } }) rfl ?_
    dsimp only
    split
    · exact timaCounts_timerOnly _ _
    · rfl

/-- Past the block the engine has no byte left to copy. -/
theorem dmaAdvance_eq_self_of_past (n : Nat) (s : State) (h : 160 < s.dma.index) : dmaAdvance n s = s := by
  have hnone : min (n / 4) (160 - s.dma.index) = 0 := by omega
  have hend : s.dma.index ≠ 160 := by omega
  simp [dmaAdvance, hnone, dmaCopies, hend]

theorem dmaAdvance_devicesOnly (n : Nat) (s : State) : devicesOnly s (dmaAdvance n s) := by
  by_cases h : s.dma.index ≤ 160
  · exact devicesOnly_of_dmaOnly (dmaAdvance_dmaOnly n s h)
  · rw [dmaAdvance_eq_self_of_past n s (by omega)]
    rfl

/-- The frame of phases 6 to 8. -/
theorem tickDevices_devicesOnly (s : State) : devicesOnly s (tickDevices s) :=
  devicesOnly_trans (devicesOnly_of_ppuOnly (ppuAdvance_ppuOnly _ _))
    (devicesOnly_trans (devicesOnly_of_timerOnly (timerAdvance_timerOnly _ _)) (dmaAdvance_devicesOnly _ _))

/-! ## A step whose instruction leaves IME 0 -/

/-- With IME 0 a core that is not halted is left alone by the interrupt controller, whatever is pending (R410). -/
theorem resolveInterrupts_eq_self {s : State} (hime : s.ime = false) (hhalted : s.halted = false) :
    resolveInterrupts s = s := by
  unfold resolveInterrupts
  split
  · rfl
  · rw [← hhalted]
    exact if_neg (Bool.eq_false_iff.mp hime)

/-- Phases 4 to 8 leave the CPU as the instruction left it when IME is 0. -/
theorem afterInstruction_cpu_of_ime_false {s : State} (hime : s.ime = false) (hhalted : s.halted = false) :
    (afterInstruction s).ime = false ∧ (afterInstruction s).imePending = s.imePending ∧
      (afterInstruction s).pc = s.pc ∧ (afterInstruction s).sp = s.sp ∧ (afterInstruction s).regs = s.regs ∧
      (afterInstruction s).stepCycles = s.stepCycles := by
  have hframe := tickDevices_devicesOnly (accumulateCycles s)
  rw [afterInstruction, resolveInterrupts_eq_self hime hhalted, hframe]
  exact ⟨hime, rfl, rfl, rfl, rfl, rfl⟩

/-- An opcode without operand bytes is its row's instruction, with PC past it and 4 cycles counted (R162). -/
theorem fetchInstr_op {s : State} {i : Instr} (h : baseRow (busRead s.pc s) = .op i) :
    fetchInstr s = (i, { s with pc := s.pc + 1, stepCycles := s.stepCycles + 4 }) := by
  simp only [fetchInstr, fetch8_eq, h]

/-- A running step is its instruction, then the end of the step (R400). -/
theorem step_of_exec {s u t : State} {i : Instr} (hfault : s.fault = false) (hhalted : s.halted = false)
    (hfetch : fetchInstr (beforeInstruction s) = (i, u)) (hexec : exec i u = .next t) :
    step s = .next (finishStep t) := by
  obtain ⟨-, -, -, -, hready, -⟩ := beforeInstruction_parts s
  simp [step, hfault, hready, hhalted, hfetch, hexec]

/-! ## EI (R373) -/

theorem exec_ei (s : State) : exec .ei s = .next { s with imePending := true } := rfl

/-- The state `EI`'s arm of `exec` leaves, fetched from the state `q`. -/
def eiExecuted (q : State) : State :=
  { q with pc := q.pc + 1, stepCycles := q.stepCycles + 4, imePending := true }

/-- A step whose opcode byte is 0xFB runs `EI` and raises no fault. -/
theorem step_ei {s : State} (hfault : s.fault = false) (hhalted : s.halted = false)
    (hop : busRead (beforeInstruction s).pc (beforeInstruction s) = 0xFB) :
    step s = .next (afterInstruction (eiExecuted (beforeInstruction s))) := by
  have hrow : baseRow (busRead (beforeInstruction s).pc (beforeInstruction s)) = .op .ei := by rw [hop]; rfl
  obtain ⟨-, -, -, -, -, hready, -⟩ := beforeInstruction_parts s
  have hnofault : ¬(eiExecuted (beforeInstruction s)).fault = true := Bool.eq_false_iff.mp (hready.trans hfault)
  exact (step_of_exec hfault hhalted (fetchInstr_op hrow) (exec_ei _)).trans (congrArg _ (if_neg hnofault))

end Sys2Proof.Machine

open Sys2Proof.Machine

/-- Settles O39: IME is 0 all through the step of `EI`, so its phase 4 enters no interrupt; the latch is set, and the next
step's phase 2 turns it into IME. -/
theorem enableInterruptsIsDeferred : Obligations.EnableInterruptsIsDeferred := by
  intro s q hfault hhalted hime hpending hop
  obtain ⟨hcycles, hpc, hsp, hregs, hready, -, -, hlatch, -⟩ := beforeInstruction_parts s
  have hime0 : (eiExecuted q).ime = false := hlatch.trans (by rw [hime, hpending, Bool.or_false])
  have hawake : (eiExecuted q).halted = false := hready.trans hhalted
  obtain ⟨time, tpending, tpc, tsp, tregs, tcycles⟩ := afterInstruction_cpu_of_ime_false hime0 hawake
  have hpcT : (afterInstruction (eiExecuted q)).pc = s.pc + 1 := tpc.trans (congrArg (· + 1) hpc)
  obtain ⟨-, npc, -, -, -, -, -, nime, -⟩ := beforeInstruction_parts (afterInstruction (eiExecuted q))
  refine ⟨_, step_ei hfault hhalted hop, time, tpending, hpcT, tsp.trans hsp, tregs.trans hregs,
    tcycles.trans (congrArg (· + 4) hcycles), ?_, npc.trans hpcT⟩
  rw [nime, tpending]
  exact Bool.or_true _

end

section
/-! PROOF. What the meaning of an instruction is made of: changes of the register file, PC and SP, counted cycles and CPU writes, in some order. Every instruction but the control instructions of spec/46_system.md is such a sequence, so a property kept by the three kinds of change is kept by all of them. -/

namespace Sys2Proof.Machine

/-- A property that the register file, PC, SP and the cycle count do not affect, and that every CPU write keeps. -/
def KeptByRuns (P : State → Prop) : Prop :=
  (∀ (u : State) (regs : Regs) (pc sp : Word) (k : Nat), P u →
    P { u with regs := regs, pc := pc, sp := sp, stepCycles := k }) ∧
  ∀ (a : Word) (v : Byte) (u : State), P u → P (busWrite a v u)

/-- `s` becomes `t` by changes of the register file, PC and SP, by counted cycles, up to `n` times 4 in all, and by CPU
writes: told by what such a sequence keeps, F's low nibble among it (R22). -/
def Runs (n : Nat) (s t : State) : Prop :=
  (∃ m ≤ n, t.stepCycles = s.stepCycles + 4 * m) ∧ (flagNibbleClear s → flagNibbleClear t) ∧
    ∀ P : State → Prop, KeptByRuns P → P s → P t

theorem Runs.cycles {n : Nat} {s t : State} (h : Runs n s t) : ∃ m ≤ n, t.stepCycles = s.stepCycles + 4 * m := h.1

theorem Runs.nibble {n : Nat} {s t : State} (h : Runs n s t) : flagNibbleClear s → flagNibbleClear t := h.2.1

theorem Runs.keeps {P : State → Prop} {n : Nat} {s t : State} (h : Runs n s t) (hP : KeptByRuns P) : P s → P t :=
  h.2.2 P hP

theorem Runs.cpu (n : Nat) (s : State) (regs : Regs) (pc sp : Word) (hf : s.regs.f &&& 0x0F = 0 → regs.f &&& 0x0F = 0) :
    Runs n s { s with regs := regs, pc := pc, sp := sp } :=
  ⟨⟨0, Nat.zero_le n, rfl⟩, hf, fun _ hP => hP.1 s regs pc sp s.stepCycles⟩

theorem Runs.tick (n : Nat) (s : State) : Runs n s (tick (4 * n) s) :=
  ⟨⟨n, le_rfl, rfl⟩, id, fun _ hP => hP.1 s s.regs s.pc s.sp (s.stepCycles + 4 * n)⟩

theorem Runs.write (a : Word) (v : Byte) (s : State) : Runs 0 s (busWrite a v s) :=
  ⟨⟨0, le_rfl, busWrite_stepCycles a v s⟩, by rw [flagNibbleClear, flagNibbleClear, busWrite_regs]; exact id,
    fun _ hP => hP.2 a v s⟩

theorem Runs.seq {m n : Nat} {s t u : State} (h1 : Runs m s t) (h2 : Runs n t u) : Runs (m + n) s u := by
  obtain ⟨⟨j, hj, ej⟩, hnibble1, hkeeps1⟩ := h1
  obtain ⟨⟨k, hk, ek⟩, hnibble2, hkeeps2⟩ := h2
  exact ⟨⟨j + k, Nat.add_le_add hj hk, by rw [ek, ej]; omega⟩, hnibble2 ∘ hnibble1,
    fun P hP => hkeeps2 P hP ∘ hkeeps1 P hP⟩

/-! ## The operations of the state -/

theorem runs_refl (n : Nat) (s : State) : Runs n s s := .cpu n s s.regs s.pc s.sp id

theorem Runs.mono {m n : Nat} {s t : State} (h : Runs m s t) (hmn : m ≤ n) : Runs n s t := by
  have hseq := h.seq (runs_refl (n - m) t)
  rwa [Nat.add_sub_cancel' hmn] at hseq

theorem runs_ite {n : Nat} {s t u : State} (c : Prop) [Decidable c] (ht : Runs n s t) (hu : Runs n s u) :
    Runs n s (if c then t else u) := by
  split
  · exact ht
  · exact hu

theorem runs_jumpTo (a : Word) (s : State) : Runs 0 s (jumpTo a s) := .cpu 0 s s.regs a s.sp id

theorem runs_writeReg8 (r : Reg8) (v : Byte) (s : State) : Runs 0 s (writeReg8 r v s) := by
  cases r <;> exact .cpu 0 s _ s.pc s.sp id

theorem runs_writeReg16 (r : Reg16) (v : Word) (s : State) : Runs 0 s (writeReg16 r v s) := by
  cases r <;> exact .cpu 0 s _ s.pc _ id

theorem runs_writeF (v : Byte) (s : State) : Runs 0 s (writeF v s) := by
  refine .cpu 0 s { s.regs with f := v &&& 0xF0 } s.pc s.sp fun _ => ?_
  rw [BitVec.and_assoc]
  exact BitVec.and_zero

theorem runs_setFlags (w : FlagWrite) (s : State) : Runs 0 s (setFlags w s) := runs_writeF _ s

theorem runs_writeStackReg (r : StackReg) (v : Word) (s : State) : Runs 0 s (writeStackReg r v s) := by
  cases r with
  | bc => exact runs_writeReg16 .bc v s
  | de => exact runs_writeReg16 .de v s
  | hl => exact runs_writeReg16 .hl v s
  | af => exact (runs_writeReg8 .a (hiByte v) s).seq (runs_writeF (loByte v) _)

theorem runs_memRead (a : Word) (s : State) : Runs 1 s (memRead a s).2 := .tick 1 s

theorem runs_memWrite (a : Word) (v : Byte) (s : State) : Runs 1 s (memWrite a v s) := (Runs.tick 1 s).seq (.write a v _)

theorem runs_push8 (v : Byte) (s : State) : Runs 1 s (push8 v s) :=
  (Runs.cpu 0 s s.regs s.pc (s.sp - 1) id).seq (runs_memWrite (s.sp - 1) v _)

theorem runs_push16 (v : Word) (s : State) : Runs 2 s (push16 v s) :=
  (runs_push8 (hiByte v) s).seq (runs_push8 (loByte v) _)

theorem runs_pop16 (s : State) : Runs 2 s (pop16 s).2 := (Runs.tick 2 s).seq (.cpu 0 _ s.regs s.pc (s.sp + 1 + 1) id)

theorem runs_fetch8 (s : State) : Runs 1 s (fetch8 s).2 := (Runs.tick 1 s).seq (.cpu 0 _ s.regs (s.pc + 1) s.sp id)

theorem runs_callAbs (a : Word) (s : State) : Runs 3 s (callAbs a s) :=
  ((Runs.tick 1 s).seq (runs_push16 s.pc _)).seq (runs_jumpTo a _)

theorem runs_jumpAbs (a : Word) (s : State) : Runs 1 s (jumpAbs a s) := (runs_jumpTo a s).seq (.tick 1 _)

theorem runs_returnSub (s : State) : Runs 3 s (returnSub s) := ((runs_pop16 s).seq (runs_jumpTo _ _)).seq (.tick 1 _)

theorem runs_aluWith (op : AluOp) (x : Byte) (s : State) : Runs 0 s (aluWith op x s) := by
  rw [aluWith_eq]
  exact (runs_writeReg8 .a _ s).seq (runs_setFlags _ _)

theorem runs_loadRegAt (rd : Reg8) (a : Word) (s : State) : Runs 1 s (loadRegAt rd a s) :=
  (runs_memRead a s).seq (runs_writeReg8 rd _ _)

theorem runs_stepHL (k : Word) (s : State) : Runs 0 s (stepHL k s) := runs_writeReg16 .hl _ s

/-- One read, then one write. -/
theorem runs_memWrite_tick (a : Word) (v : Byte) (s : State) : Runs 2 s (memWrite a v (tick 4 s)) :=
  (Runs.tick 1 s).seq (runs_memWrite a v _)

/-! ## The operations of the instructions -/

/-! No operation an arm of `exec` calls takes more than 3 machine cycles after the instruction's bytes, but for the
conditional return, which takes 4 (R545). Each bound leaves room for more, so that it is the left side of a rewrite for
every larger bound. -/

@[simp] theorem within_id (n : Nat) (s : State) : Runs (n + 3) s s :=
  (runs_refl 0 s).mono (by omega)

@[simp] theorem within_loadRegReg (n : Nat) (rd rs : Reg8) (s : State) : Runs (n + 3) s (loadRegReg rd rs s) :=
  (runs_writeReg8 rd _ s).mono (by omega)

@[simp] theorem within_loadRegImm (n : Nat) (rd : Reg8) (v : Byte) (s : State) : Runs (n + 3) s (loadRegImm rd v s) :=
  (runs_writeReg8 rd v s).mono (by omega)

@[simp] theorem within_loadRegAt (n : Nat) (rd : Reg8) (a : Word) (s : State) : Runs (n + 3) s (loadRegAt rd a s) :=
  (runs_loadRegAt rd _ s).mono (by omega)

@[simp] theorem within_storeAt (n : Nat) (a : Word) (v : Byte) (s : State) : Runs (n + 3) s (storeAt a v s) :=
  (runs_memWrite _ _ s).mono (by omega)

@[simp] theorem within_stepHL_loadRegAt (n : Nat) (k a : Word) (s : State) :
    Runs (n + 3) s (stepHL k (loadRegAt .a a s)) :=
  ((runs_loadRegAt .a _ s).seq (runs_stepHL k _)).mono (by omega)

@[simp] theorem within_stepHL_storeAt (n : Nat) (k a : Word) (v : Byte) (s : State) :
    Runs (n + 3) s (stepHL k (storeAt a v s)) :=
  ((runs_memWrite _ _ s).seq (runs_stepHL k _)).mono (by omega)

@[simp] theorem within_loadReg16Imm (n : Nat) (rr : Reg16) (v : Word) (s : State) :
    Runs (n + 3) s (loadReg16Imm rr v s) :=
  (runs_writeReg16 rr v s).mono (by omega)

@[simp] theorem within_storeSpAt (n : Nat) (a : Word) (s : State) : Runs (n + 3) s (storeSpAt a s) :=
  ((runs_memWrite _ _ s).seq (runs_memWrite _ _ _)).mono (by omega)

@[simp] theorem within_loadSpHL (n : Nat) (s : State) : Runs (n + 3) s (loadSpHL s) :=
  ((runs_writeReg16 .sp _ s).seq (.tick 1 _)).mono (by omega)

@[simp] theorem within_loadHLSpE8 (n : Nat) (e : Byte) (s : State) : Runs (n + 3) s (loadHLSpE8 e s) :=
  (((runs_writeReg16 .hl _ s).seq (runs_setFlags _ _)).seq (.tick 1 _)).mono (by omega)

@[simp] theorem within_pushReg (n : Nat) (rr : StackReg) (s : State) : Runs (n + 3) s (pushReg rr s) :=
  ((Runs.tick 1 s).seq (runs_push16 _ _)).mono (by omega)

@[simp] theorem within_popReg (n : Nat) (rr : StackReg) (s : State) : Runs (n + 3) s (popReg rr s) :=
  ((runs_pop16 s).seq (runs_writeStackReg rr _ _)).mono (by omega)

@[simp] theorem within_aluReg (n : Nat) (op : AluOp) (r : Reg8) (s : State) : Runs (n + 3) s (aluReg op r s) :=
  (runs_aluWith op _ s).mono (by omega)

@[simp] theorem within_aluAtHL (n : Nat) (op : AluOp) (s : State) : Runs (n + 3) s (aluAtHL op s) :=
  ((runs_memRead (hlAddr s) s).seq (runs_aluWith op _ _)).mono (by omega)

@[simp] theorem within_aluImm (n : Nat) (op : AluOp) (v : Byte) (s : State) : Runs (n + 3) s (aluImm op v s) :=
  (runs_aluWith op v s).mono (by omega)

@[simp] theorem within_modifyReg (n : Nat) (f : Byte → Byte × FlagWrite) (r : Reg8) (s : State) :
    Runs (n + 3) s (modifyReg f r s) :=
  ((runs_writeReg8 r _ s).seq (runs_setFlags _ _)).mono (by omega)

@[simp] theorem within_modifyAtHL (n : Nat) (f : Byte → Byte × FlagWrite) (s : State) :
    Runs (n + 3) s (modifyAtHL f s) :=
  ((runs_memWrite_tick _ _ s).seq (runs_setFlags _ _)).mono (by omega)

@[simp] theorem within_decimalAdjust (n : Nat) (s : State) : Runs (n + 3) s (decimalAdjust s) :=
  ((runs_writeReg8 .a _ s).seq (runs_setFlags _ _)).mono (by omega)

@[simp] theorem within_complementA (n : Nat) (s : State) : Runs (n + 3) s (complementA s) :=
  ((runs_writeReg8 .a _ s).seq (runs_setFlags _ _)).mono (by omega)

@[simp] theorem within_setCarry (n : Nat) (s : State) : Runs (n + 3) s (setCarry s) :=
  (runs_setFlags _ s).mono (by omega)

@[simp] theorem within_complementCarry (n : Nat) (s : State) : Runs (n + 3) s (complementCarry s) :=
  (runs_setFlags _ s).mono (by omega)

@[simp] theorem within_stepReg16 (n : Nat) (k : Word) (rr : Reg16) (s : State) : Runs (n + 3) s (stepReg16 k rr s) :=
  ((runs_writeReg16 rr _ s).seq (.tick 1 _)).mono (by omega)

@[simp] theorem within_addToHL (n : Nat) (rr : Reg16) (s : State) : Runs (n + 3) s (addToHL rr s) :=
  (((runs_writeReg16 .hl _ s).seq (runs_setFlags _ _)).seq (.tick 1 _)).mono (by omega)

@[simp] theorem within_addToSp (n : Nat) (e : Byte) (s : State) : Runs (n + 3) s (addToSp e s) :=
  (((runs_writeReg16 .sp _ s).seq (runs_setFlags _ _)).seq (.tick 2 _)).mono (by omega)

@[simp] theorem within_rotA (n : Nat) (op : RotOp) (s : State) : Runs (n + 3) s (rotA op s) :=
  ((runs_writeReg8 .a _ s).seq (runs_setFlags _ _)).mono (by omega)

@[simp] theorem within_rotReg (n : Nat) (op : RotOp) (r : Reg8) (s : State) : Runs (n + 3) s (rotReg op r s) :=
  ((runs_writeReg8 r _ s).seq (runs_setFlags _ _)).mono (by omega)

@[simp] theorem within_rotAtHL (n : Nat) (op : RotOp) (s : State) : Runs (n + 3) s (rotAtHL op s) :=
  ((runs_memWrite_tick _ _ s).seq (runs_setFlags _ _)).mono (by omega)

@[simp] theorem within_bitTestReg (n : Nat) (b : Nat) (r : Reg8) (s : State) : Runs (n + 3) s (bitTestReg b r s) :=
  (runs_setFlags _ s).mono (by omega)

@[simp] theorem within_bitTestAtHL (n : Nat) (b : Nat) (s : State) : Runs (n + 3) s (bitTestAtHL b s) :=
  ((runs_memRead (hlAddr s) s).seq (runs_setFlags _ _)).mono (by omega)

@[simp] theorem within_bitResetReg (n : Nat) (b : Nat) (r : Reg8) (s : State) : Runs (n + 3) s (bitResetReg b r s) :=
  (runs_writeReg8 r _ s).mono (by omega)

@[simp] theorem within_bitResetAtHL (n : Nat) (b : Nat) (s : State) : Runs (n + 3) s (bitResetAtHL b s) :=
  (runs_memWrite_tick _ _ s).mono (by omega)

@[simp] theorem within_bitSetReg (n : Nat) (b : Nat) (r : Reg8) (s : State) : Runs (n + 3) s (bitSetReg b r s) :=
  (runs_writeReg8 r _ s).mono (by omega)

@[simp] theorem within_bitSetAtHL (n : Nat) (b : Nat) (s : State) : Runs (n + 3) s (bitSetAtHL b s) :=
  (runs_memWrite_tick _ _ s).mono (by omega)

@[simp] theorem within_jumpTo (n : Nat) (a : Word) (s : State) : Runs (n + 3) s (jumpTo a s) :=
  (runs_jumpTo _ s).mono (by omega)

@[simp] theorem within_jumpAbs (n : Nat) (a : Word) (s : State) : Runs (n + 3) s (jumpAbs a s) :=
  (runs_jumpAbs a s).mono (by omega)

@[simp] theorem within_jumpAbsIf (n : Nat) (cc : Cond) (a : Word) (s : State) : Runs (n + 3) s (jumpAbsIf cc a s) :=
  (runs_ite _ (runs_jumpAbs a s) (runs_refl 1 s)).mono (by omega)

@[simp] theorem within_jumpRel (n : Nat) (e : Byte) (s : State) : Runs (n + 3) s (jumpRel e s) :=
  (runs_jumpAbs _ s).mono (by omega)

@[simp] theorem within_jumpRelIf (n : Nat) (cc : Cond) (e : Byte) (s : State) : Runs (n + 3) s (jumpRelIf cc e s) :=
  (runs_ite _ (runs_jumpAbs _ s) (runs_refl 1 s)).mono (by omega)

@[simp] theorem within_callAbs (n : Nat) (a : Word) (s : State) : Runs (n + 3) s (callAbs a s) :=
  (runs_callAbs a s).mono (by omega)

@[simp] theorem within_callAbsIf (n : Nat) (cc : Cond) (a : Word) (s : State) : Runs (n + 3) s (callAbsIf cc a s) :=
  (runs_ite _ (runs_callAbs a s) (runs_refl 3 s)).mono (by omega)

@[simp] theorem within_returnSub (n : Nat) (s : State) : Runs (n + 3) s (returnSub s) :=
  (runs_returnSub s).mono (by omega)

@[simp] theorem within_returnSubIf (n : Nat) (cc : Cond) (s : State) : Runs (n + 4) s (returnSubIf cc s) :=
  runs_ite _ (((Runs.tick 1 s).seq (runs_returnSub _)).mono (by omega)) ((Runs.tick 1 s).mono (by omega))

end Sys2Proof.Machine

end

section
/-! PROOF. The decoder read backwards (spec/30_encoding.md R160, R167, R170 to R172): each row of the two tables holds the instruction whose encoding begins with the row's own byte. -/

namespace Sys2Proof

/-- Each entry of a table is in the relation to its index, counted from `k`. -/
def TableHolds {α : Type} (P : Nat → α → Prop) : Nat → List α → Prop
  | _, [] => True
  | k, x :: xs => P k x ∧ TableHolds P (k + 1) xs

/-- The two tables are written as sixteen rows of sixteen entries. -/
theorem TableHolds.append_row {α : Type} {P : Nat → α → Prop} {xs ys : List α} {k : Nat} (hlen : xs.length = 16)
    (hx : TableHolds P k xs) (hy : TableHolds P (k + 16) ys) : TableHolds P k (xs ++ ys) := by
  rw [← hlen] at hy
  clear hlen
  induction xs generalizing k with
  | nil => exact hy
  | cons x xs ih => exact ⟨hx.1, ih hx.2 (by rwa [List.length_cons, Nat.add_comm xs.length, ← Nat.add_assoc] at hy)⟩

theorem TableHolds.getElem {α : Type} {P : Nat → α → Prop} {xs : List α} {k : Nat} (hx : TableHolds P k xs) (i : Nat)
    (hi : i < xs.length) : P (k + i) xs[i] := by
  induction xs generalizing k i with
  | nil => exact absurd hi (Nat.not_lt_zero i)
  | cons x xs ih =>
    cases i with
    | zero => exact hx.1
    | succ i =>
      rw [Nat.add_succ, ← Nat.succ_add]
      exact ih hx.2 i (Nat.lt_of_succ_lt_succ hi)

/-- The decoding of the bytes after the opcode, from the opcode's row (R160, R167). -/
def decodeRow (op : Byte) (row : Row) (operands : List Byte) : Decoded :=
  match row, operands with
  | .op i, rest => .instr i rest
  | .d8 mk, n :: rest => .instr (mk n) rest
  | .d16 mk, lo :: hi :: rest => .instr (mk (joinBytes lo hi)) rest
  | .cbTable, cbop :: rest => .instr (cbInstr cbop) rest
  | .cbTable, [] => .instr .cbPrefix []
  | .d8 _, [] => .rejected (.truncated op)
  | .d16 _, _ => .rejected (.truncated op)

theorem decode_of_row {op : Byte} {row : Row} (h : baseRow op = row) (operands : List Byte) :
    decode (op :: operands) = decodeRow op row operands := by
  rw [← h]
  rfl

/-- The instruction a row holds for given operand bytes; the row of the CB table holds the marker (log entry 11). -/
def rowInstr (row : Row) (n : Byte) (nn : Word) : Instr :=
  match row with
  | .op i => i
  | .d8 mk => mk n
  | .d16 mk => mk nn
  | .cbTable => .cbPrefix

/-- The operand bytes of a row, low byte first (R160). -/
def rowOperands (row : Row) (n : Byte) (nn : Word) : List Byte :=
  match row with
  | .op _ => []
  | .d8 _ => [n]
  | .d16 _ => [loByte nn, hiByte nn]
  | .cbTable => []

@[simp] theorem rowInstr_op (i : Instr) (n : Byte) (nn : Word) : rowInstr (.op i) n nn = i := rfl

@[simp] theorem rowInstr_d8 (mk : Byte → Instr) (n : Byte) (nn : Word) : rowInstr (.d8 mk) n nn = mk n := rfl

@[simp] theorem rowInstr_d16 (mk : Word → Instr) (n : Byte) (nn : Word) : rowInstr (.d16 mk) n nn = mk nn := rfl

@[simp] theorem rowInstr_cbTable (n : Byte) (nn : Word) : rowInstr .cbTable n nn = .cbPrefix := rfl

@[simp] theorem rowOperands_op (i : Instr) (n : Byte) (nn : Word) : rowOperands (.op i) n nn = [] := rfl

@[simp] theorem rowOperands_d8 (mk : Byte → Instr) (n : Byte) (nn : Word) : rowOperands (.d8 mk) n nn = [n] := rfl

@[simp] theorem rowOperands_d16 (mk : Word → Instr) (n : Byte) (nn : Word) :
    rowOperands (.d16 mk) n nn = [loByte nn, hiByte nn] := rfl

@[simp] theorem rowOperands_cbTable (n : Byte) (nn : Word) : rowOperands .cbTable n nn = [] := rfl

/-- A row holds the well-formed instruction that is encoded with its opcode byte (R170, R172). -/
theorem baseTable_encodes (n : Byte) (nn : Word) :
    TableHolds (fun k row => (rowInstr row n nn).wellFormed = true ∧
      encode (rowInstr row n nn) = BitVec.ofNat 8 k :: rowOperands row n nn) 0 baseTable := by
  simp only [baseTable, List.append_assoc]
  repeat' refine TableHolds.append_row rfl ?_ ?_
  all_goals
    refine ⟨?_, ?_, ?_, ?_, ?_, ?_, ?_, ?_, ?_, ?_, ?_, ?_, ?_, ?_, ?_, ?_, trivial⟩ <;> constructor <;> rfl

theorem baseRow_encodes (op n : Byte) (nn : Word) :
    (rowInstr (baseRow op) n nn).wellFormed = true ∧
      encode (rowInstr (baseRow op) n nn) = op :: rowOperands (baseRow op) n nn := by
  have hrow := TableHolds.getElem (baseTable_encodes n nn) op.toNat (baseTable_length ▸ op.isLt)
  rwa [Nat.zero_add, BitVec.ofNat_toNat, BitVec.setWidth_eq] at hrow

theorem cbTable_encodes : TableHolds (fun k i => encode i = [0xCB, BitVec.ofNat 8 k]) 0 cbTable := by
  simp only [cbTable, List.append_assoc]
  repeat' refine TableHolds.append_row rfl ?_ ?_
  all_goals
    refine ⟨?_, ?_, ?_, ?_, ?_, ?_, ?_, ?_, ?_, ?_, ?_, ?_, ?_, ?_, ?_, ?_, trivial⟩ <;> rfl

theorem encode_cbInstr (cbop : Byte) : encode (cbInstr cbop) = [0xCB, cbop] := by
  have hrow := TableHolds.getElem cbTable_encodes cbop.toNat (cbTable_length ▸ cbop.isLt)
  rwa [Nat.zero_add, BitVec.ofNat_toNat, BitVec.setWidth_eq] at hrow

theorem eq_illegal_of_not_wellFormed {i : Instr} (h : i.wellFormed = false) : ∃ op, i = .illegal op := by
  unfold Instr.wellFormed at h
  split at h
  · exact ⟨_, rfl⟩
  · exact absurd h.symm Bool.false_ne_true

/-- An instruction of two bytes is no undefined opcode. -/
theorem wellFormed_of_encode {i : Instr} {b1 b2 : Byte} (h : encode i = [b1, b2]) : i.wellFormed = true := by
  by_contra hwf
  obtain ⟨op, rfl⟩ := eq_illegal_of_not_wellFormed (Bool.eq_false_of_not_eq_true hwf)
  cases h


/-- What decodes is well-formed, and its bytes are its encoding and the rest. -/
theorem encode_of_decode {bytes : List Byte} {i : Instr} {rest : List Byte} (h : decode bytes = .instr i rest) :
    i.wellFormed = true ∧ encode i ++ rest = bytes := by
  match bytes with
  | [] => cases h
  | op :: operands =>
    have hrow := baseRow_encodes op
    generalize hr : baseRow op = row at hrow
    rw [decode_of_row hr] at h
    cases row with
    | op j =>
      obtain ⟨hwf, henc⟩ : j.wellFormed = true ∧ encode j = [op] := hrow 0 0
      obtain ⟨rfl, rfl⟩ := Decoded.instr.inj h
      exact ⟨hwf, by rw [henc]; rfl⟩
    | d8 mk =>
      match operands with
      | [] => cases h
      | n :: tail =>
        obtain ⟨hwf, henc⟩ : (mk n).wellFormed = true ∧ encode (mk n) = [op, n] := hrow n 0
        obtain ⟨rfl, rfl⟩ := Decoded.instr.inj h
        exact ⟨hwf, by rw [henc]; rfl⟩
    | d16 mk =>
      match operands with
      | [] | [_] => cases h
      | lo :: hi :: tail =>
        obtain ⟨hwf, henc⟩ := hrow 0 (joinBytes lo hi)
        obtain ⟨rfl, rfl⟩ := Decoded.instr.inj h
        rw [rowOperands_d16, Machine.loByte_joinBytes, Machine.hiByte_joinBytes] at henc
        exact ⟨hwf, congrArg (· ++ tail) henc⟩
    | cbTable =>
      have hop : 0xCB = op := (List.cons.inj (hrow 0 0).2).1
      match operands with
      | [] =>
        obtain ⟨rfl, rfl⟩ := Decoded.instr.inj h
        exact ⟨rfl, by rw [← hop]; rfl⟩
      | cbop :: tail =>
        obtain ⟨rfl, rfl⟩ := Decoded.instr.inj h
        have henc := encode_cbInstr cbop
        exact ⟨wellFormed_of_encode henc, by rw [henc, ← hop]; rfl⟩

theorem decode_of_encode_eq {bytes : List Byte} {i : Instr} (hbytes : encode i = bytes) (hwf : i.wellFormed = true) :
    decode bytes = .instr i [] :=
  hbytes ▸ decode_encode hwf

/-- The number of bytes of an instruction from this row. -/
def rowLength : Row → Nat
  | .op _ => 1
  | .d8 _ => 2
  | .d16 _ => 3
  | .cbTable => 2

@[simp] theorem rowLength_op (i : Instr) : rowLength (.op i) = 1 := rfl

@[simp] theorem rowLength_d8 (mk : Byte → Instr) : rowLength (.d8 mk) = 2 := rfl

@[simp] theorem rowLength_d16 (mk : Word → Instr) : rowLength (.d16 mk) = 3 := rfl

@[simp] theorem rowLength_cbTable : rowLength .cbTable = 2 := rfl

theorem lengthOfOpcode_eq {op : Byte} {row : Row} (h : baseRow op = row) : lengthOfOpcode op = rowLength row := by
  rw [← h]
  rfl

/-- Three bytes are enough for every row, and the row alone says how many of them are used (R160). -/
theorem decode_three_bytes (op b1 b2 : Byte) (rest : List Byte) :
    ∃ i, decode (op :: b1 :: b2 :: rest) = .instr i ((b1 :: b2 :: rest).drop (lengthOfOpcode op - 1)) := by
  cases hr : baseRow op with
  | op i => exact ⟨i, by rw [decode_of_row hr, lengthOfOpcode_eq hr]; rfl⟩
  | d8 mk => exact ⟨mk b1, by rw [decode_of_row hr, lengthOfOpcode_eq hr]; rfl⟩
  | d16 mk => exact ⟨mk (joinBytes b1 b2), by rw [decode_of_row hr, lengthOfOpcode_eq hr]; rfl⟩
  | cbTable => exact ⟨cbInstr b1, by rw [decode_of_row hr, lengthOfOpcode_eq hr]; rfl⟩

theorem lengthOfOpcode_bounds (op : Byte) : 1 ≤ lengthOfOpcode op ∧ lengthOfOpcode op ≤ 3 := by
  cases hr : baseRow op <;> simp [lengthOfOpcode_eq hr]

theorem baseRow_eq_cbTable {op cbop : Byte} {i j : Instr} (h1 : decode [op] = .instr i [])
    (h2 : decode [op, cbop] = .instr j []) : baseRow op = .cbTable := by
  generalize hr : baseRow op = row
  rw [decode_of_row hr] at h1 h2
  cases row with
  | op _ => cases (Decoded.instr.inj h2).2
  | cbTable => rfl
  | d8 _ | d16 _ => cases h1

theorem baseRow_prefix : baseRow 0xCB = .cbTable :=
  baseRow_eq_cbTable (i := .cbPrefix) (j := .rlc_B) (decode_of_encode_eq rfl rfl) (decode_of_encode_eq rfl rfl)

theorem decode_of_cbTable {op : Byte} (h : baseRow op = .cbTable) (cbop : Byte) :
    decode [op, cbop] = .instr (cbInstr cbop) [] :=
  decode_of_row h [cbop]

end Sys2Proof

open Sys2Proof

/-- Settles O2: the two tables read backwards, and the length each row of the base table has. -/
theorem encodeOfDecode : Obligations.EncodeOfDecode :=
  ⟨fun _ _ _ => encode_of_decode, decode_three_bytes, lengthOfOpcode_bounds, lengthOfOpcode_eq baseRow_prefix⟩

/-- Settles O3: each of the eighteen sequences is the encoding of its instruction. -/
theorem sampleEncodings : Obligations.SampleEncodings := by
  refine ⟨?_, ?_, ?_, ?_, ?_, ?_, ?_, ?_, ?_, ?_, ?_, ?_, ?_, ?_, ?_, ?_, ?_, ?_⟩ <;> exact decode_of_encode_eq rfl rfl

end

section
/-! PROOF. Fetching an instruction (spec/30_encoding.md R162) against decoding its bytes, and the steps and instructions that need no more than one row of a table: the undefined opcodes (R172, R377), the prefix (R375), STOP and the other system instructions. -/

namespace Sys2Proof.Machine

/-- A fetch reads the bytes of its instruction, as many as the opcode byte says. -/
theorem length_encode_fetchInstr (s : State) :
    (encode (fetchInstr s).1).length = lengthOfOpcode (busRead s.pc s) := by
  have hrow := baseRow_encodes (busRead s.pc s)
  cases hr : baseRow (busRead s.pc s) with
  | op i =>
    rw [hr] at hrow
    have henc : encode i = [_] := (hrow 0 0).2
    simp [fetchInstr, fetch8_eq, lengthOfOpcode_eq hr, hr, henc]
  | d8 mk =>
    rw [hr] at hrow
    have henc (n : Byte) : encode (mk n) = [_, n] := (hrow n 0).2
    simp [fetchInstr, fetch8_eq, lengthOfOpcode_eq hr, hr, henc]
  | d16 mk =>
    rw [hr] at hrow
    have henc (nn : Word) : encode (mk nn) = [_, loByte nn, hiByte nn] := (hrow 0 nn).2
    simp [fetchInstr, fetch8_eq, fetch16_eq, lengthOfOpcode_eq hr, hr, henc]
  | cbTable => simp [fetchInstr, fetch8_eq, lengthOfOpcode_eq hr, hr, encode_cbInstr]

/-- A fetch gives the instruction that the bytes at PC decode to. -/
theorem fetchInstr_of_decode {s : State} {i : Instr} {rest : List Byte}
    (h : decode [busRead s.pc s, busRead (s.pc + 1) s, busRead (s.pc + 2) s] = .instr i rest) :
    fetchInstr s =
      (i, { s with
        pc := s.pc + BitVec.ofNat 16 (3 - rest.length)
        stepCycles := s.stepCycles + 4 * (3 - rest.length) }) := by
  generalize hr : baseRow (busRead s.pc s) = row
  rw [decode_of_row hr] at h
  cases row <;> obtain ⟨rfl, rfl⟩ := Decoded.instr.inj h
  case op => exact fetchInstr_op hr
  case d8 mk | cbTable =>
    simp only [fetchInstr, fetch8_eq, hr, add_assoc]
    rfl
  case d16 mk =>
    simp only [fetchInstr, fetch8_eq, fetch16_eq, hr, add_assoc]
    rfl

/-- What the end of a step makes of the result of its instruction (R400). -/
def endOfStep : Result → Result
  | .next t => .next (finishStep t)
  | .fault r => .fault r
  | .refused r => .refused r

/-- A running step is its instruction, then the end of the step (R400). -/
theorem step_eq_endOfStep {s u : State} {i : Instr} (hfault : s.fault = false) (hhalted : s.halted = false)
    (hfetch : fetchInstr (beforeInstruction s) = (i, u)) : step s = endOfStep (exec i u) := by
  obtain ⟨-, -, -, -, hready, -⟩ := beforeInstruction_parts s
  simp only [step, hfault, hready, hhalted, hfetch, Bool.false_eq_true, if_false]
  cases exec i u <;> rfl

/-- A quiet sample where the list has run out (log entry 6). -/
theorem joyInput_edge (s : State) : (joyInput s).edge = (s.joyInputs.head?.map JoyInput.edge).getD false := by
  unfold joyInput
  cases s.joyInputs <;> rfl

theorem joyInput_held (s : State) : (joyInput s).held = (s.joyInputs.head?.map JoyInput.held).getD 0 := by
  unfold joyInput
  cases s.joyInputs <;> rfl

theorem joypadLatch_eq (s : State) :
    joypadLatch s = { s with ifReg := if (joyInput s).edge then s.ifReg ||| 0b10000 else s.ifReg } := by
  unfold joypadLatch
  split <;> rfl

theorem resolveImeLatch_eq (s : State) :
    resolveImeLatch s = { s with ime := s.ime || s.imePending, imePending := false } := by
  unfold resolveImeLatch
  split
  next h => rw [h, Bool.or_true]
  next h =>
    rw [Bool.not_eq_true] at h
    rw [h, Bool.or_false, ← h]

/-- Phases 1 and 2 (R400 to R402). -/
theorem beforeInstruction_eq (s : State) :
    beforeInstruction s =
      { s with
        stepCycles := 0
        frameValid := false
        blankFrame := false
        ime := s.ime || s.imePending
        imePending := false
        ifReg := if (joyInput s).edge then s.ifReg ||| 0b10000 else s.ifReg } := by
  rw [beforeInstruction, resolveImeLatch_eq, joypadLatch_eq]
  rfl

theorem raiseIllegalOpcode_eq (s : State) :
    raiseIllegalOpcode s =
      { s with
        fault := true
        snapshot := { regs := { s.regs with f := s.regs.f &&& 0xF0 }, pc := s.pc, sp := s.sp, cycTotal := s.cycTotal } } :=
  rfl

theorem exec_illegal (op : Byte) (s : State) : exec (.illegal op) s = .next (raiseIllegalOpcode s) := rfl

theorem baseRow_undefined {op : Byte} (h : op ∈ undefinedOpcodes) : baseRow op = .op (.illegal op) := by
  have hdecode : decode [op] = .instr (.illegal op) [] := decode_of_encode_eq rfl (List.contains_iff_mem.mpr h)
  generalize hr : baseRow op = row
  rw [decode_of_row hr] at hdecode
  cases row with
  | op i => rw [(Decoded.instr.inj hdecode).1]
  | cbTable | d8 _ | d16 _ => cases hdecode

theorem encodes_illegal {op : Byte} (h : op ∈ undefinedOpcodes) : encodes [op] (.illegal op) :=
  encodes_of_encode_eq rfl (List.contains_iff_mem.mpr h) nofun

/-- An undefined opcode ends the step it is fetched in (R404). -/
theorem step_undefined {s : State} (hfault : s.fault = false) (hhalted : s.halted = false)
    (hop : busRead (beforeInstruction s).pc (beforeInstruction s) ∈ undefinedOpcodes) :
    step s = .next (raiseIllegalOpcode
      { beforeInstruction s with
        pc := (beforeInstruction s).pc + 1, stepCycles := (beforeInstruction s).stepCycles + 4 }) :=
  step_eq_endOfStep hfault hhalted (fetchInstr_op (baseRow_undefined hop))

theorem step_of_fault {s : State} (h : s.fault = true) : step s = .fault (.illegalOpcode s.snapshot) := by
  exact if_pos h

end Sys2Proof.Machine

open Sys2Proof.Machine

/-- Settles O4: the fetch gives the decoded instruction, and `endOfStep` is phases 4 to 8. -/
theorem stepRunsDecodedInstruction : Obligations.StepRunsDecodedInstruction := by
  intro s i rest q hfault hhalted hdecode
  have hstep := step_eq_endOfStep hfault hhalted (fetchInstr_of_decode hdecode)
  obtain ⟨hcycles, -⟩ := beforeInstruction_parts s
  rw [hcycles, Nat.zero_add] at hstep
  rw [hstep]
  cases exec i { q with pc := q.pc + BitVec.ofNat 16 (3 - rest.length), stepCycles := 4 * (3 - rest.length) } with
  | next t =>
    show Host.Outcome.next (if t.fault = true then t else afterInstruction t) = if t.fault = true then .next t else _
    split <;> rfl
  | fault r => rfl
  | refused r => rfl

/-- Settles O5: the one equation of phases 1 and 2, with the head of the input list for the step's sample. -/
theorem beforeInstruction : Obligations.BeforeInstruction := by
  intro s
  rw [beforeInstruction_eq, joyInput_edge]

/-- Settles O7: the row of an undefined opcode holds its own `illegal`, and the fault it raises ends the step. -/
theorem illegalOpcode : Obligations.IllegalOpcode := by
  refine ⟨fun op hop => ⟨encodes_illegal hop, exec_illegal op⟩, ?_, fun s => step_of_fault⟩
  intro s q hfault hhalted hop
  rw [step_undefined hfault hhalted hop, raiseIllegalOpcode_eq]
  simp only [q, beforeInstruction_eq, Nat.zero_add]

end

section
/-! PROOF. What a CPU write does to the state as a whole (spec/20_memory.md section 6): it writes one memory-mapped register, or stays within the memories, the mapper and IE. -/

namespace Sys2Proof.Machine

/-- A mapper keeps its kind: no command makes one of another kind of it (R120). -/
def sameMapperKind (m m' : Mapper) : Prop :=
  match m, m' with
  | .noMapper, .noMapper => True
  | .mbc1 _, .mbc1 _ => True
  | .mbc3 _, .mbc3 _ => True
  | _, _ => False

theorem sameMapperKind_refl (m : Mapper) : sameMapperKind m m := by
  cases m <;> trivial

theorem sameMapperKind_trans {m m' m'' : Mapper} (h : sameMapperKind m m') (h' : sameMapperKind m' m'') :
    sameMapperKind m m'' := by
  cases m <;> cases m' <;> cases m'' <;> trivial

/-- Everything a write outside the memory-mapped registers may change (R75 to R85): the memories, the mapper and IE. -/
def memoryOnly (s t : State) : Prop :=
  t = { s with rom := t.rom, vram := t.vram, cartRam := t.cartRam, wram := t.wram, oam := t.oam, hram := t.hram,
               mapper := t.mapper, ie := t.ie } ∧ sameMapperKind s.mapper t.mapper

theorem memoryOnly_of_mapper_eq {s t : State}
    (h : t = { s with vram := t.vram, cartRam := t.cartRam, wram := t.wram, oam := t.oam, hram := t.hram, ie := t.ie }) :
    memoryOnly s t := by
  refine ⟨by rw [h], ?_⟩
  rw [h]
  exact sameMapperKind_refl s.mapper

theorem mapperWriteRom_memoryOnly (n : Nat) (v : Byte) (s : State) : memoryOnly s (mapperWriteRom n v s) := by
  unfold mapperWriteRom
  split
  · exact ⟨rfl, sameMapperKind_refl s.mapper⟩
  next r hm =>
    unfold mbc1Write
    split
    · exact ⟨rfl, hm ▸ trivial⟩
    split
    · exact ⟨rfl, hm ▸ trivial⟩
    split <;> exact ⟨rfl, hm ▸ trivial⟩
  next r hm =>
    unfold mbc3Write
    split
    · exact ⟨rfl, hm ▸ trivial⟩
    split
    · exact ⟨rfl, hm ▸ trivial⟩
    split
    · exact ⟨rfl, hm ▸ trivial⟩
    · exact ⟨rfl, sameMapperKind_refl s.mapper⟩

/-- A CPU write writes a memory-mapped register or stays within the memories, the mapper and IE. -/
theorem busWrite_io_or_memoryOnly (a : Word) (v : Byte) (s : State) :
    (∃ r, regionOf a = .io r ∧ busWrite a v s = writeIo r v s) ∨ memoryOnly s (busWrite a v s) := by
  unfold busWrite
  split
  · exact .inr (memoryOnly_of_mapper_eq rfl)
  unfold decodeWrite
  split
  case h_1 n hr => exact .inr (mapperWriteRom_memoryOnly n v s)
  case h_2 => exact .inr (memoryOnly_of_mapper_eq (by split <;> rfl))
  case h_3 => exact .inr (memoryOnly_of_mapper_eq (by unfold mapperWriteRam; split <;> rfl))
  case h_5 => exact .inr (memoryOnly_of_mapper_eq (by split <;> rfl))
  case h_6 r hr => exact .inl ⟨r, hr, rfl⟩
  all_goals exact .inr (memoryOnly_of_mapper_eq rfl)

/-- A property of the rest of the state that every register write keeps. -/
theorem busWrite_keeps {P : State → Prop} (hmem : ∀ s t, memoryOnly s t → P s → P t)
    (hio : ∀ (r : IoReg) (v : Byte) (s : State), P s → P (writeIo r v s)) (a : Word) (v : Byte) (s : State) (h : P s) :
    P (busWrite a v s) := by
  obtain ⟨r, -, e⟩ | e := busWrite_io_or_memoryOnly a v s
  · exact e ▸ hio r v s h
  · exact hmem _ _ e h

/-- The framebuffer is written by the renderer alone (R45). -/
theorem writeIo_fb (r : IoReg) (v : Byte) (s : State) : (writeIo r v s).ppu.fb = s.ppu.fb := by
  cases r
  case lcdc =>
    dsimp only [writeIo, writeLcdc]
    split
    · rfl
    · split <;> rfl
  case boot => dsimp only [writeIo]; split <;> rfl
  all_goals rfl

@[simp] theorem busWrite_fb (a : Word) (v : Byte) (s : State) : (busWrite a v s).ppu.fb = s.ppu.fb :=
  busWrite_keeps (P := fun u => u.ppu.fb = s.ppu.fb) (fun t u e h => by rw [e.1]; exact h)
    (fun r v u h => (writeIo_fb r v u).trans h) a v s rfl

end Sys2Proof.Machine

end

section
/-! PROOF. The prefix and the CB table (spec/30_encoding.md R171, spec/46_system.md R375), and the one inversion of `exec`: what an instruction that answers a next state has done, with the statements about all instructions that follow from it. -/

namespace Sys2Proof.Machine

/-! ## The CB table by its fields (R171, R375) -/

/-- The CB table is read through its decoding. -/
theorem cbInstr_of_encodes {cbop : Byte} {i : Instr} (h : encodes [0xCB, cbop] i) : cbInstr cbop = i :=
  (Decoded.instr.inj ((decode_of_cbTable baseRow_prefix cbop).symm.trans (h []))).1

theorem cbInstr_rot (op : RotOp) (o : Operand8) :
    cbInstr (8 * Forms.rotCode op + Forms.operand8Code o) = Forms.rot op o := by
  cases o with
  | reg r => exact cbInstr_of_encodes (encodes_rot_reg op r)
  | atHL => exact cbInstr_of_encodes (encodes_rot_atHL op)

theorem cbInstr_bit (b : Fin 8) (o : Operand8) :
    cbInstr (0x40 + 8 * BitVec.ofNat 8 b.val + Forms.operand8Code o) = Forms.bit b o :=
  cbInstr_of_encodes (encodes_bit b o)

theorem cbInstr_res (b : Fin 8) (o : Operand8) :
    cbInstr (0x80 + 8 * BitVec.ofNat 8 b.val + Forms.operand8Code o) = Forms.res b o := by
  cases o with
  | reg r => exact cbInstr_of_encodes (encodes_res_reg b r)
  | atHL =>
    refine cbInstr_of_encodes ?_
    have hcode : 0x80 + 8 * BitVec.ofNat 8 b.val + Forms.operand8Code .atHL = 0x86 + 8 * BitVec.ofNat 8 b.val := by
      rw [add_right_comm]
      rfl
    exact hcode ▸ encodes_res_atHL b

theorem cbInstr_set (b : Fin 8) (o : Operand8) :
    cbInstr (0xC0 + 8 * BitVec.ofNat 8 b.val + Forms.operand8Code o) = Forms.set b o := by
  cases o with
  | reg r => exact cbInstr_of_encodes (encodes_set_reg b r)
  | atHL =>
    refine cbInstr_of_encodes ?_
    have hcode : 0xC0 + 8 * BitVec.ofNat 8 b.val + Forms.operand8Code .atHL = 0xC6 + 8 * BitVec.ofNat 8 b.val := by
      rw [add_right_comm]
      rfl
    exact hcode ▸ encodes_set_atHL b

/-- A byte by the fields x, y, z (R161). -/
theorem byte_eq_fields (c : Byte) :
    c = 0x40 * BitVec.ofNat 8 (c.extractLsb' 6 2).toNat + 8 * BitVec.ofNat 8 (c.extractLsb' 3 3).toNat +
      BitVec.ofNat 8 (c.extractLsb' 0 3).toNat := by
  apply BitVec.eq_of_toNat_eq
  have hlt := c.isLt
  simp only [BitVec.ofNat_eq_ofNat, BitVec.toNat_add, BitVec.toNat_mul, BitVec.toNat_ofNat, BitVec.extractLsb'_toNat, Nat.shiftRight_eq_div_pow]
  omega

theorem rotCode_rotOp (y : BitVec 3) : Forms.rotCode (rotOp y) = BitVec.ofNat 8 y.toNat := by
  revert y
  decide

theorem operand8Code_operand8 (z : BitVec 3) : Forms.operand8Code (operand8 z) = BitVec.ofNat 8 z.toNat := by
  revert z
  decide

theorem exec_rot (op : RotOp) (o : Operand8) (s : State) : exec (Forms.rot op o) s = .next (cbRotate op o s) := by
  cases o with
  | reg r => exact exec_rot_reg op r s
  | atHL => exact exec_rot_atHL op s

theorem exec_bit_eq (b : Fin 8) (o : Operand8) (s : State) : exec (Forms.bit b o) s = .next (cbBitTest b.val o s) := by
  rw [exec_bit]
  cases o <;> rfl

theorem exec_res (b : Fin 8) (o : Operand8) (s : State) : exec (Forms.res b o) s = .next (cbBitReset b.val o s) := by
  cases o with
  | reg r => exact exec_res_reg b r s
  | atHL => exact exec_res_atHL b s

theorem exec_set (b : Fin 8) (o : Operand8) (s : State) : exec (Forms.set b o) s = .next (cbBitSet b.val o s) := by
  cases o with
  | reg r => exact exec_set_reg b r s
  | atHL => exact exec_set_atHL b s

/-- The meaning of the table's entry is `CbOperation` of its byte. -/
theorem exec_cbInstr (cbop : Byte) (s : State) : exec (cbInstr cbop) s = .next (cbOperation cbop s) := by
  have hc := byte_eq_fields cbop
  have hx := (cbop.extractLsb' 6 2).isLt
  unfold cbOperation
  dsimp only
  generalize hy : cbop.extractLsb' 3 3 = y at hc ⊢
  generalize cbop.extractLsb' 0 3 = z at hc ⊢
  generalize (cbop.extractLsb' 6 2).toNat = x at hc hx ⊢
  rw [hc, ← operand8Code_operand8 z]
  match x with
  | 0 =>
    rw [← rotCode_rotOp y, BitVec.ofNat_eq_ofNat, BitVec.mul_zero, BitVec.zero_add]
    exact (congrArg (exec · s) (cbInstr_rot _ _)).trans (exec_rot _ _ s)
  | 1 => exact (congrArg (exec · s) (cbInstr_bit ⟨y.toNat, y.isLt⟩ (operand8 z))).trans (exec_bit_eq _ _ s)
  | 2 => exact (congrArg (exec · s) (cbInstr_res ⟨y.toNat, y.isLt⟩ (operand8 z))).trans (exec_res _ _ s)
  | 3 => exact (congrArg (exec · s) (cbInstr_set ⟨y.toNat, y.isLt⟩ (operand8 z))).trans (exec_set _ _ s)
theorem exec_cbPrefix (s : State) :
    exec .cbPrefix s =
      exec (cbInstr (busRead s.pc s)) { s with pc := s.pc + 1, stepCycles := s.stepCycles + 4 } :=
  (exec_cbInstr _ _).symm

theorem runs_cbOperation (cbop : Byte) (s : State) : Runs 3 s (cbOperation cbop s) := by
  unfold cbOperation
  generalize operand8 (cbop.extractLsb' 0 3) = o
  dsimp only
  split <;> cases o
  · exact within_rotReg 0 _ _ s
  · exact within_rotAtHL 0 _ s
  · exact within_bitTestReg 0 _ _ s
  · exact within_bitTestAtHL 0 _ s
  · exact within_bitResetReg 0 _ _ s
  · exact within_bitResetAtHL 0 _ s
  · exact within_bitSetReg 0 _ _ s
  · exact within_bitSetAtHL 0 _ s

/-! ## STOP (R372) -/

theorem exec_stop (s : State) : exec .stop s = stopByMode s := rfl

theorem stopByMode_refuse {s : State} (h : s.cfg.stopMode = .refuse) : stopByMode s = .refused .stopRefused := by
  unfold stopByMode
  rw [h]

theorem stopByMode_nop1 {s : State} (h : s.cfg.stopMode = .nop1) : stopByMode s = .next s := by
  unfold stopByMode
  rw [h]

theorem stopByMode_nop2 {s : State} (h : s.cfg.stopMode = .nop2) :
    stopByMode s = .next { s with pc := s.pc + 1, stepCycles := s.stepCycles + 4 } := by
  unfold stopByMode
  rw [h, fetch8_eq]

/-- STOP that runs discards at most one byte. -/
theorem runs_of_stopByMode {s t : State} (h : stopByMode s = .next t) : Runs 1 s t := by
  cases hm : s.cfg.stopMode with
  | refuse => simp [stopByMode_refuse hm] at h
  | nop1 =>
    rw [stopByMode_nop1 hm, Host.Outcome.next.injEq] at h
    exact h ▸ runs_refl 1 s
  | nop2 =>
    rw [stopByMode_nop2 hm, Host.Outcome.next.injEq] at h
    have hrun := runs_fetch8 s
    rw [fetch8_eq] at hrun
    exact h ▸ hrun

/-! ## The inversion of `exec`, by the rows of the base table -/

/-- The instructions that are none of the shared operations: STOP, whose meaning a parameter chooses, the four that
write a control bit and the undefined opcodes. -/
def ControlInstr (i : Instr) : Prop :=
  i = .stop ∨ i = .ei ∨ i = .di ∨ i = .halt ∨ i = .reti ∨ ∃ op, i = .illegal op

/-- The instruction runs a shared operation, within the machine cycles that its bytes leave of 6 (R545). -/
def RunsShared (s : State) (i : Instr) : Prop :=
  ∃ t n, exec i s = .next t ∧ Runs n s t ∧ (encode i).length + n ≤ 6

@[simp] theorem within_cbPrefixed (n : Nat) (s : State) : Runs (n + 4) s (cbPrefixed s) :=
  ((runs_fetch8 s).seq (runs_cbOperation _ _)).mono (by omega)

/-- Every row holds a shared operation, within the machine cycles that its operand bytes leave of 5, or a control
instruction. -/
theorem baseTable_runs (s : State) (n : Byte) (nn : Word) :
    TableHolds (fun _ row =>
      (∃ t, exec (rowInstr row n nn) s = .next t ∧ Runs (5 - (rowOperands row n nn).length) s t) ∨
        ControlInstr (rowInstr row n nn)) 0 baseTable := by
  simp only [baseTable, List.append_assoc]
  repeat' refine TableHolds.append_row rfl ?_ ?_
  all_goals refine ⟨?_, ?_, ?_, ?_, ?_, ?_, ?_, ?_, ?_, ?_, ?_, ?_, ?_, ?_, ?_, ?_, trivial⟩
  any_goals exact .inr (.inl rfl)
  any_goals (refine .inl ⟨?_, ?_, ?_⟩; rotate_left; rfl; simp; done)
  all_goals exact .inr (by simp [ControlInstr])

/-- What decodes stands in a row of the base table or in the CB table. -/
theorem exists_row_of_decode {bytes : List Byte} {i : Instr} {rest : List Byte} (h : decode bytes = .instr i rest) :
    (∃ op n nn, i = rowInstr (baseRow op) n nn) ∨ ∃ cbop, i = cbInstr cbop := by
  match bytes with
  | [] => cases h
  | op :: operands =>
    generalize hr : baseRow op = row
    rw [decode_of_row hr] at h
    cases row with
    | op j =>
      exact .inl ⟨op, 0, 0, by rw [hr]; exact (Decoded.instr.inj h).1.symm⟩
    | d8 mk =>
      match operands with
      | [] => cases h
      | n :: tail =>
        exact .inl ⟨op, n, 0, by rw [hr]; exact (Decoded.instr.inj h).1.symm⟩
    | d16 mk =>
      match operands with
      | [] | [_] => cases h
      | lo :: hi :: tail =>
        exact .inl ⟨op, 0, joinBytes lo hi, by rw [hr]; exact (Decoded.instr.inj h).1.symm⟩
    | cbTable =>
      match operands with
      | [] =>
        exact .inl ⟨op, 0, 0, by rw [hr]; exact (Decoded.instr.inj h).1.symm⟩
      | cbop :: tail =>
        exact .inr ⟨cbop, (Decoded.instr.inj h).1.symm⟩

/-- What an instruction writes of the control state, after the rest of its meaning has left `u` (R28 to R31). -/
def ControlWrite (i : Instr) (u t : State) : Prop :=
  t = u ∨
  (i = .ei ∧ t = { u with imePending := true }) ∨
  (i = .di ∧ t = { u with ime := false, imePending := false }) ∨
  (i = .halt ∧ t = { u with halted := true }) ∨
  (i = .reti ∧ t = { u with ime := true }) ∨
  ∃ op, i = .illegal op ∧ t = raiseIllegalOpcode u

theorem runsShared_or_control (i : Instr) (s : State) : RunsShared s i ∨ ControlInstr i := by
  cases hwf : i.wellFormed with
  | false => exact .inr (.inr (.inr (.inr (.inr (.inr (eq_illegal_of_not_wellFormed hwf))))))
  | true =>
    obtain ⟨op, n, nn, rfl⟩ | ⟨cbop, rfl⟩ := exists_row_of_decode (decode_encode hwf)
    · obtain ⟨t, hexec, hruns⟩ | hcontrol :=
        TableHolds.getElem (baseTable_runs s n nn) op.toNat (baseTable_length ▸ op.isLt)
      · refine .inl ⟨t, _, hexec, hruns, ?_⟩
        have hlen : (rowOperands (baseRow op) n nn).length ≤ 2 := by
          cases baseRow op <;> simp
        rw [(baseRow_encodes op n nn).2]
        change _ + 1 + (5 - (rowOperands (baseRow op) n nn).length) ≤ 6
        omega
      · exact .inr hcontrol
    · refine .inl ⟨_, 3, exec_cbInstr cbop s, runs_cbOperation cbop s, ?_⟩
      rw [encode_cbInstr]
      exact Nat.le_of_ble_eq_true rfl

/-- An instruction that answers a next state has run within its cycles and then written the control state its rule
names. -/
theorem exec_next {i : Instr} {s t : State} (h : exec i s = .next t) :
    ∃ n u, Runs n s u ∧ (encode i).length + n ≤ 6 ∧ ControlWrite i u t := by
  obtain ⟨u, n, hexec, hruns, hcost⟩ | rfl | rfl | rfl | rfl | rfl | ⟨op, rfl⟩ := runsShared_or_control i s
  · rw [hexec, Host.Outcome.next.injEq] at h
    exact ⟨n, u, hruns, hcost, .inl h.symm⟩
  · exact ⟨1, t, runs_of_stopByMode h, Nat.le_of_ble_eq_true rfl, .inl rfl⟩
  · cases h
    exact ⟨0, s, runs_refl 0 s, Nat.le_of_ble_eq_true rfl, .inr (.inl ⟨rfl, rfl⟩)⟩
  · cases h
    exact ⟨0, s, runs_refl 0 s, Nat.le_of_ble_eq_true rfl, .inr (.inr (.inl ⟨rfl, rfl⟩))⟩
  · cases h
    exact ⟨0, s, runs_refl 0 s, Nat.le_of_ble_eq_true rfl, .inr (.inr (.inr (.inl ⟨rfl, rfl⟩)))⟩
  · cases h
    exact ⟨3, returnSub s, runs_returnSub s, Nat.le_of_ble_eq_true rfl, .inr (.inr (.inr (.inr (.inl ⟨rfl, rfl⟩))))⟩
  · cases h
    exact ⟨0, s, runs_refl 0 s, Nat.le_of_ble_eq_true rfl, .inr (.inr (.inr (.inr (.inr ⟨op, rfl, rfl⟩))))⟩

theorem exec_total (i : Instr) (s : State) (h : i ≠ .stop ∨ s.cfg.stopMode ≠ .refuse) : ∃ t, exec i s = .next t := by
  obtain ⟨t, _, hexec, -⟩ | rfl | rfl | rfl | rfl | rfl | ⟨op, rfl⟩ := runsShared_or_control i s
  case inl => exact ⟨t, hexec⟩
  case inr.inl =>
    cases hm : s.cfg.stopMode with
    | refuse => exact absurd hm (h.resolve_left (not_not_intro rfl))
    | nop1 => exact ⟨_, stopByMode_nop1 hm⟩
    | nop2 => exact ⟨_, stopByMode_nop2 hm⟩
  all_goals exact ⟨_, rfl⟩

/-! ## The control state -/

/-- What no instruction changes (R28 to R31, R45). -/
def restKept (s t : State) : Prop :=
  t.cycTotal = s.cycTotal ∧ t.rom.buf = s.rom.buf ∧ t.bootRom = s.bootRom ∧ t.ppu.fb = s.ppu.fb ∧
    t.frameValid = s.frameValid ∧ t.blankFrame = s.blankFrame ∧ t.joyInputs = s.joyInputs ∧ t.cfg = s.cfg

/-- Neither the control state nor the rest depends on what a run changes. -/
theorem Runs.controlKept {n : Nat} {s t : State} (h : Runs n s t) :
    (t.ime = s.ime ∧ t.imePending = s.imePending ∧ t.halted = s.halted ∧ t.fault = s.fault ∧ t.snapshot = s.snapshot) ∧
      restKept s t :=
  h.keeps (P := fun u => (u.ime = s.ime ∧ u.imePending = s.imePending ∧ u.halted = s.halted ∧ u.fault = s.fault ∧
      u.snapshot = s.snapshot) ∧ restKept s u)
    ⟨fun _ _ _ _ _ => id, fun a v u hu => by simpa [restKept] using hu⟩
    ⟨⟨rfl, rfl, rfl, rfl, rfl⟩, rfl, rfl, rfl, rfl, rfl, rfl, rfl, rfl⟩

end Sys2Proof.Machine

open Sys2Proof.Machine

/-- Settles O8: every arm answers a next state but STOP's, which asks the parameter. -/
theorem everyInstructionRuns : Obligations.EveryInstructionRuns :=
  ⟨exec_total, fun _ => stopByMode_refuse⟩

/-- Settles O9: no CPU write and no change of registers reaches these fields, so they change by `ControlWrite` alone. -/
theorem controlStateWrittenOnlyBy : Obligations.ControlStateWrittenOnlyBy := by
  intro i s t h
  obtain ⟨n, u, hrun, -, hctl⟩ := exec_next h
  obtain ⟨⟨hime, hpending, hhalted, hfault, hsnap⟩, hu⟩ := hrun.controlKept
  have hrest : restKept s t := by
    obtain rfl | ⟨-, rfl⟩ | ⟨-, rfl⟩ | ⟨-, rfl⟩ | ⟨-, rfl⟩ | ⟨op, -, rfl⟩ := hctl <;> exact hu
  have hrecord : ¬(u.fault ≠ s.fault ∨ u.snapshot ≠ s.snapshot) := fun hne => hne.elim (· hfault) (· hsnap)
  obtain rfl | ⟨hi, rfl⟩ | ⟨hi, rfl⟩ | ⟨hi, rfl⟩ | ⟨hi, rfl⟩ | ⟨op, hi, rfl⟩ := hctl
  · exact ⟨(absurd hime ·), (absurd hpending ·), (absurd hhalted ·), (absurd · hrecord), hrest⟩
  · exact ⟨(absurd hime ·), fun _ => .inl hi, (absurd hhalted ·), (absurd · hrecord), hrest⟩
  · exact ⟨fun _ => .inl hi, fun _ => .inr hi, (absurd hhalted ·), (absurd · hrecord), hrest⟩
  · exact ⟨(absurd hime ·), (absurd hpending ·), fun _ => hi, (absurd · hrecord), hrest⟩
  · exact ⟨fun _ => .inr hi, (absurd hpending ·), (absurd hhalted ·), (absurd · hrecord), hrest⟩
  · exact ⟨(absurd hime ·), (absurd hpending ·), (absurd hhalted ·), fun _ => ⟨op, hi⟩, hrest⟩

/-- Settles O35: the four arms of `exec` evaluated; with IME 1 the latch adds nothing to phase 2's `IME or ime_pending`. -/
theorem systemInstructions : Obligations.SystemInstructions := by
  refine ⟨⟨encodes_of_encode_eq rfl rfl nofun, encodes_of_encode_eq rfl rfl nofun, encodes_of_encode_eq rfl rfl nofun,
      encodes_of_encode_eq rfl rfl nofun⟩,
    fun s => ⟨rfl, rfl, rfl, fun hime => ?_, rfl, rfl⟩⟩
  rw [beforeInstruction_eq, beforeInstruction_eq s, hime]
  rfl

/-- Settles O36: one equation of STOP per value of the parameter. -/
theorem stopByMode : Obligations.StopByMode := by
  refine ⟨encodes_of_encode_eq rfl rfl nofun, fun s => ⟨stopByMode_refuse, fun h => ⟨s, stopByMode_nop1 h, rfl, rfl⟩,
    fun h => ⟨_, stopByMode_nop2 h, rfl, rfl⟩⟩⟩

/-- Settles O37: the marker's arm is `CbOperation` of the byte it fetches, and the table is read off by its fields. -/
theorem prefixRunsTheCbTable : Obligations.PrefixRunsTheCbTable :=
  ⟨fun s => ⟨_, rfl, (exec_cbPrefix s).symm⟩,
    fun o => ⟨fun op => cbInstr_rot op o, fun b => ⟨cbInstr_bit b o, cbInstr_res b o, cbInstr_set b o⟩⟩⟩

end

section
/-! PROOF. The PPU's scanline state machine (spec/61_ppu.md R440 to R450): each transition as one equation, the ranges it keeps, and the loop of R442 free of its bound, so that time adds up. -/

namespace Sys2Proof.Machine

/-! ## The transitions (R443 to R446) -/

/-- IF after the STAT request of source `k`, made when `statEn` enables it (R40). -/
def withStatRequest (k : Nat) (p : Ppu) (r : BitVec 5) : BitVec 5 := if p.statEn.getLsbD k then r ||| 0b00010 else r

/-- IF after the compare of a line with LYC (R448). -/
def withLycCompare (ly : Byte) (p : Ppu) (r : BitVec 5) : BitVec 5 := if ly = p.lyc then withStatRequest 3 p r else r

theorem statInterrupt_eq (k : Nat) (s : State) :
    statInterrupt k s = { s with ifReg := withStatRequest k s.ppu s.ifReg } := by
  unfold statInterrupt withStatRequest
  split <;> rfl

theorem lycCheck_eq (s : State) : lycCheck s = { s with ifReg := withLycCompare s.ppu.ly s.ppu s.ifReg } := by
  unfold lycCheck withLycCompare
  split
  · rw [statInterrupt_eq]
  · rfl

theorem enterHBlank_eq (s : State) :
    enterHBlank s =
      { s with
        ppu := { s.ppu with mode := .hBlank, fb := (renderLine s.ppu.ly.toNat s).ppu.fb }
        ifReg := withStatRequest 0 s.ppu s.ifReg } := by
  rw [enterHBlank, statInterrupt_eq]
  unfold renderLine
  generalize (List.range 160).foldl _ s.ppu.fb = fb
  rfl

/-- The new line is visible up to 143 (R445). -/
theorem leaveHBlank_eq (s : State) :
    leaveHBlank s =
      { s with
        ppu := { s.ppu with
          ly := s.ppu.ly + 1
          spriteExtra := 0
          lineSprites := []
          mode := if (s.ppu.ly + 1).toNat < 144 then .oamScan else .vBlank }
        ifReg := withLycCompare (s.ppu.ly + 1) s.ppu
          (if (s.ppu.ly + 1).toNat < 144 then withStatRequest 2 s.ppu s.ifReg
            else withStatRequest 1 s.ppu (s.ifReg ||| 0b00001)) } := by
  unfold leaveHBlank
  dsimp only
  split <;> rw [statInterrupt_eq, lycCheck_eq] <;> rfl

/-- The frame ends with line 153 (R446, R464). -/
theorem leaveVBlankLine_eq (s : State) :
    leaveVBlankLine s =
      { s with
        ppu := { s.ppu with
          ly := if s.ppu.ly = 153 then 0 else s.ppu.ly + 1
          mode := if s.ppu.ly = 153 then .oamScan else s.ppu.mode }
        frameValid := if s.ppu.ly = 153 then true else s.frameValid
        ifReg := withLycCompare (if s.ppu.ly = 153 then 0 else s.ppu.ly + 1) s.ppu
          (if s.ppu.ly = 153 then withStatRequest 2 s.ppu s.ifReg else s.ifReg) } := by
  have hlast : (s.ppu.ly + 1).toNat = 154 ↔ s.ppu.ly = 153 := by bv_omega
  unfold leaveVBlankLine
  dsimp only
  split
  next h =>
    simp only [hlast.mp h, if_true, statInterrupt_eq, lycCheck_eq]
    rfl
  next h =>
    simp only [mt hlast.mpr h, if_false, lycCheck_eq]
    rfl

/-- The transition of each mode. -/
theorem ppuTransition_by_mode (s : State) :
    (s.ppu.mode = .oamScan → ppuTransition s = enterPixelPut s) ∧
      (s.ppu.mode = .pixelPut → ppuTransition s = enterHBlank s) ∧
      (s.ppu.mode = .hBlank → ppuTransition s = leaveHBlank s) ∧
      (s.ppu.mode = .vBlank → ppuTransition s = leaveVBlankLine s) := by
  unfold ppuTransition
  exact ⟨fun h => by rw [h], fun h => by rw [h], fun h => by rw [h], fun h => by rw [h]⟩

theorem ppuTransition_oamScan {s : State} (h : s.ppu.mode = .oamScan) : ppuTransition s = enterPixelPut s :=
  (ppuTransition_by_mode s).1 h

theorem ppuTransition_pixelPut {s : State} (h : s.ppu.mode = .pixelPut) : ppuTransition s = enterHBlank s :=
  (ppuTransition_by_mode s).2.1 h

theorem ppuTransition_hBlank {s : State} (h : s.ppu.mode = .hBlank) : ppuTransition s = leaveHBlank s :=
  (ppuTransition_by_mode s).2.2.1 h

theorem ppuTransition_vBlank {s : State} (h : s.ppu.mode = .vBlank) : ppuTransition s = leaveVBlankLine s :=
  (ppuTransition_by_mode s).2.2.2 h

/-! ## The ranges (R45) -/

/-- The ranges of the PPU but for the dot, as they hold while a mode changes with dots left over (R442). -/
def ppuInMode (s : State) : Prop :=
  s.ppu.ly.toNat ≤ 153 ∧
    (s.ppu.mode = .vBlank ↔ 144 ≤ s.ppu.ly.toNat) ∧
    s.ppu.lineSprites.length ≤ 10 ∧
    (∀ i ∈ s.ppu.lineSprites, i < 40) ∧
    s.ppu.spriteExtra = s.cfg.spritePenaltyDots.val * s.ppu.lineSprites.length ∧
    (s.ppu.mode = .oamScan ∨ s.ppu.mode = .vBlank → s.ppu.lineSprites = []) ∧
    0 < s.ppu.offBudget ∧ s.ppu.offBudget ≤ 70224

theorem ppuInRange_iff (s : State) :
    ppuInRange s ↔ ppuInMode s ∧ s.ppu.dot < modeLength s.ppu.mode s.ppu.spriteExtra ∧
      (lcdcBit 7 s = false → s.ppu.mode = .hBlank ∧ s.ppu.ly = 0 ∧ s.ppu.dot = 0 ∧ s.ppu.lineSprites = []) := by
  unfold ppuInRange ppuInMode
  tauto

/-- At most ten sprites of at most 20 dots each (R453). -/
theorem spriteExtra_le {s : State} (h : ppuInMode s) : s.ppu.spriteExtra ≤ 200 := by
  obtain ⟨-, -, hlen, -, hextra, -⟩ := h
  have hp : s.cfg.spritePenaltyDots.val ≤ 20 := Nat.le_of_lt_succ s.cfg.spritePenaltyDots.isLt
  exact hextra ▸ Nat.mul_le_mul hp hlen

/-- Every mode has a dot, so every turn of the loop of R442 uses one up. -/
theorem modeLength_pos {s : State} (h : ppuInMode s) : 0 < modeLength s.ppu.mode s.ppu.spriteExtra := by
  have hextra := spriteExtra_le h
  cases s.ppu.mode with
  | oamScan => exact Nat.succ_pos 79
  | pixelPut => exact Nat.lt_add_right _ (Nat.succ_pos 171)
  | hBlank => exact Nat.sub_pos_of_lt (Nat.lt_of_le_of_lt hextra (by decide))
  | vBlank => exact Nat.succ_pos 455

theorem selectSprites_length_le (ly : Nat) (s : State) : (selectSprites ly s).length ≤ 10 := by
  unfold selectSprites
  split
  · exact List.length_take_le 10 _
  · exact Nat.zero_le 10

theorem lt_of_mem_selectSprites {ly i : Nat} {s : State} (h : i ∈ selectSprites ly s) : i < 40 := by
  unfold selectSprites at h
  split at h
  · exact List.mem_range.mp (List.mem_of_mem_filter (List.mem_of_mem_take h))
  · exact absurd h List.not_mem_nil

theorem ppuTransition_inMode {s : State} (h : ppuInMode s) : ppuInMode (ppuTransition s) := by
  obtain ⟨hly, hvb, hlen, h40, hextra, hnone, hbudget⟩ := h
  have hvisible (hne : s.ppu.mode ≠ .vBlank) : s.ppu.ly.toNat < 144 := Nat.lt_of_not_le (mt hvb.mpr hne)
  cases hm : s.ppu.mode with
  | oamScan =>
    rw [ppuTransition_oamScan hm]
    exact ⟨hly, iff_of_false nofun (Nat.not_le_of_lt (hvisible (by simp [hm]))), selectSprites_length_le _ s,
      fun i => lt_of_mem_selectSprites, rfl, fun h => h.elim nofun nofun, hbudget⟩
  | pixelPut =>
    rw [ppuTransition_pixelPut hm, enterHBlank_eq]
    exact ⟨hly, iff_of_false nofun (Nat.not_le_of_lt (hvisible (by simp [hm]))), hlen, h40, hextra,
      fun h => h.elim nofun nofun, hbudget⟩
  | hBlank =>
    have hvis := hvisible (by simp [hm])
    rw [ppuTransition_hBlank hm, leaveHBlank_eq]
    refine ⟨?_, ?_, Nat.zero_le 10, by nofun, rfl, fun _ => rfl, hbudget⟩
    · show (s.ppu.ly + 1).toNat ≤ 153
      bv_omega
    · show (if (s.ppu.ly + 1).toNat < 144 then PpuMode.oamScan else .vBlank) = .vBlank ↔ 144 ≤ (s.ppu.ly + 1).toNat
      split
      next h => exact iff_of_false nofun (Nat.not_le_of_lt h)
      next h => exact iff_of_true rfl (Nat.le_of_not_lt h)
  | vBlank =>
    have hvis : 144 ≤ s.ppu.ly.toNat := hvb.mp hm
    have hempty := hnone (.inr hm)
    rw [ppuTransition_vBlank hm, leaveVBlankLine_eq]
    refine ⟨?_, ?_, hlen, h40, hextra, fun _ => hempty, hbudget⟩
    · show (if s.ppu.ly = 153 then 0 else s.ppu.ly + 1).toNat ≤ 153
      split
      · decide
      · bv_omega
    · show (if s.ppu.ly = 153 then PpuMode.oamScan else s.ppu.mode) = .vBlank ↔
        144 ≤ (if s.ppu.ly = 153 then 0 else s.ppu.ly + 1).toNat
      split
      · exact iff_of_false nofun (by decide)
      · exact iff_of_true hm (by bv_omega)

/-! ## The loop without its bound (R442) -/

/-- The state with the dot counter set. -/
def setDot (d : Nat) (s : State) : State := { s with ppu := { s.ppu with dot := d } }

@[simp] theorem setDot_setDot (d e : Nat) (s : State) : setDot d (setDot e s) = setDot d s := rfl

@[simp] theorem setDot_dot (d : Nat) (s : State) : (setDot d s).ppu.dot = d := rfl

theorem setDot_self (s : State) : setDot s.ppu.dot s = s := rfl

theorem renderLine_setDot (ly d : Nat) (s : State) : renderLine ly (setDot d s) = setDot d (renderLine ly s) := by
  have hpixel (x : Nat) : linePixel x ly (setDot d s) = linePixel x ly s := rfl
  unfold renderLine
  simp only [hpixel]
  generalize List.range 160 = columns
  rfl

/-- No transition reads the dot counter. -/
theorem ppuTransition_setDot (d : Nat) (s : State) : ppuTransition (setDot d s) = setDot d (ppuTransition s) := by
  have hmode : (setDot d s).ppu.mode = s.ppu.mode := rfl
  have hly : (setDot d s).ppu.ly = s.ppu.ly := rfl
  cases hm : s.ppu.mode with
  | oamScan =>
    rw [ppuTransition_oamScan hm, ppuTransition_oamScan (hmode.trans hm)]
    rfl
  | pixelPut =>
    rw [ppuTransition_pixelPut hm, ppuTransition_pixelPut (hmode.trans hm), enterHBlank_eq, enterHBlank_eq, hly,
      renderLine_setDot]
    rfl
  | hBlank =>
    rw [ppuTransition_hBlank hm, ppuTransition_hBlank (hmode.trans hm), leaveHBlank_eq, leaveHBlank_eq]
    rfl
  | vBlank =>
    rw [ppuTransition_vBlank hm, ppuTransition_vBlank (hmode.trans hm), leaveVBlankLine_eq, leaveVBlankLine_eq]
    rfl

theorem ppuTransition_dot (s : State) : (ppuTransition s).ppu.dot = s.ppu.dot := by
  have h := congrArg (·.ppu.dot) (ppuTransition_setDot s.ppu.dot s)
  rwa [setDot_self] at h

/-- With the dot short of the mode's length the loop ends, whatever its bound. -/
theorem ppuLoop_of_lt (turns : Nat) {s : State} (h : s.ppu.dot < modeLength s.ppu.mode s.ppu.spriteExtra) :
    ppuLoop turns s = s := by
  cases turns with
  | zero => rfl
  | succ k => exact if_pos h

/-- One turn of the loop: the dots left over are carried into the next mode (R442, D35). -/
theorem ppuLoop_succ (k : Nat) {s : State} (h : modeLength s.ppu.mode s.ppu.spriteExtra ≤ s.ppu.dot) :
    ppuLoop (k + 1) s =
      ppuLoop k (setDot (s.ppu.dot - modeLength s.ppu.mode s.ppu.spriteExtra) (ppuTransition s)) := by
  rw [← ppuTransition_setDot]
  exact if_neg (Nat.not_lt_of_le h)

theorem setDot_inMode {d : Nat} {s : State} (h : ppuInMode s) : ppuInMode (setDot d s) := h

/-- Any two bounds above the dot give the same (log entry 12). -/
theorem ppuLoop_bound (m : Nat) : ∀ {n : Nat} {s : State}, ppuInMode s → s.ppu.dot < m → s.ppu.dot < n →
    ppuLoop m s = ppuLoop n s := by
  induction m with
  | zero => exact fun _ h => absurd h (Nat.not_lt_zero _)
  | succ k ih =>
    intro n s hs hm hn
    by_cases hlt : s.ppu.dot < modeLength s.ppu.mode s.ppu.spriteExtra
    · rw [ppuLoop_of_lt _ hlt, ppuLoop_of_lt _ hlt]
    · obtain ⟨j, rfl⟩ := Nat.exists_eq_add_of_lt (Nat.zero_lt_of_lt hn)
      have hle := Nat.le_of_not_lt hlt
      have hpos := modeLength_pos hs
      rw [Nat.zero_add, ppuLoop_succ k hle, ppuLoop_succ j hle]
      exact ih (setDot_inMode (ppuTransition_inMode hs)) (by rw [setDot_dot]; omega) (by rw [setDot_dot]; omega)

/-- The state once the dots counted so far have been turned into mode changes: the loop of R442 with a bound it does not
reach. -/
def ppuSettle (s : State) : State := ppuLoop (s.ppu.dot + 1) s

theorem ppuAdvance_on (n : Nat) {s : State} (h : lcdcBit 7 s = true) :
    ppuAdvance n s = ppuSettle (setDot (s.ppu.dot + n) s) :=
  if_pos h

/-- The PPU off counts its budget down (R449). -/
theorem ppuAdvance_off (n : Nat) {s : State} (h : lcdcBit 7 s = false) : ppuAdvance n s = ppuOffTick n s :=
  if_neg (Bool.not_eq_true _ ▸ h)

theorem ppuSettle_of_lt {s : State} (h : s.ppu.dot < modeLength s.ppu.mode s.ppu.spriteExtra) : ppuSettle s = s :=
  ppuLoop_of_lt _ h

theorem ppuSettle_of_le {s : State} (hs : ppuInMode s) (h : modeLength s.ppu.mode s.ppu.spriteExtra ≤ s.ppu.dot) :
    ppuSettle s = ppuSettle (setDot (s.ppu.dot - modeLength s.ppu.mode s.ppu.spriteExtra) (ppuTransition s)) := by
  have hpos := modeLength_pos hs
  refine (ppuLoop_succ _ h).trans ?_
  exact ppuLoop_bound _ (setDot_inMode (ppuTransition_inMode hs)) (by rw [setDot_dot]; omega) (Nat.lt_succ_self _)

/-- A property that the dot counter does not affect and that every transition keeps. -/
theorem ppuSettle_keeps {P : State → Prop} (hdot : ∀ (d : Nat) (s : State), P s → P (setDot d s))
    (htransition : ∀ s, P s → P (ppuTransition s)) {s : State} (h : P s) : P (ppuSettle s) := by
  have hloop (turns : Nat) : ∀ s, P s → P (ppuLoop turns s) := by
    induction turns with
    | zero => exact fun s h => h
    | succ k ih =>
      intro s hs
      by_cases hlt : s.ppu.dot < modeLength s.ppu.mode s.ppu.spriteExtra
      · rwa [ppuLoop_of_lt _ hlt]
      · rw [ppuLoop_succ k (Nat.le_of_not_lt hlt)]
        exact ih _ (hdot _ _ (htransition s hs))
  exact hloop _ s h

/-- Induction along the turns of the loop: a state the loop leaves alone, and a turn. -/
theorem ppuSettle_induction {P : State → Prop}
    (hlt : ∀ s, s.ppu.dot < modeLength s.ppu.mode s.ppu.spriteExtra → P s)
    (hle : ∀ s, ppuInMode s → modeLength s.ppu.mode s.ppu.spriteExtra ≤ s.ppu.dot →
      P (setDot (s.ppu.dot - modeLength s.ppu.mode s.ppu.spriteExtra) (ppuTransition s)) → P s) {s : State}
    (hs : ppuInMode s) : P s := by
  induction hd : s.ppu.dot using Nat.strong_induction_on generalizing s with
  | _ d ih =>
    by_cases h : s.ppu.dot < modeLength s.ppu.mode s.ppu.spriteExtra
    · exact hlt s h
    · have hpos := modeLength_pos hs
      exact hle s hs (Nat.le_of_not_lt h)
        (ih _ (by rw [setDot_dot]; omega) (setDot_inMode (ppuTransition_inMode hs)) rfl)

theorem ppuSettle_dot_lt {s : State} (hs : ppuInMode s) :
    (ppuSettle s).ppu.dot < modeLength (ppuSettle s).ppu.mode (ppuSettle s).ppu.spriteExtra := by
  refine ppuSettle_induction (P := fun s => (ppuSettle s).ppu.dot <
    modeLength (ppuSettle s).ppu.mode (ppuSettle s).ppu.spriteExtra) (fun s h => ?_) (fun s hs h ih => ?_) hs
  · rwa [ppuSettle_of_lt h]
  · rwa [ppuSettle_of_le hs h]

/-- Dots may be counted before or after the mode changes of the dots already there. -/
theorem ppuSettle_add (n : Nat) {s : State} (hs : ppuInMode s) :
    ppuSettle (setDot ((ppuSettle s).ppu.dot + n) (ppuSettle s)) = ppuSettle (setDot (s.ppu.dot + n) s) := by
  refine ppuSettle_induction (P := fun s => ppuSettle (setDot ((ppuSettle s).ppu.dot + n) (ppuSettle s)) =
    ppuSettle (setDot (s.ppu.dot + n) s)) (fun s h => ?_) (fun s hs h ih => ?_) hs
  · rw [ppuSettle_of_lt h]
  · have hmore : modeLength s.ppu.mode s.ppu.spriteExtra ≤ s.ppu.dot + n := Nat.le_add_right_of_le h
    rw [ppuSettle_of_le hs h, ih, ppuSettle_of_le (s := setDot (s.ppu.dot + n) s) hs hmore, ppuTransition_setDot,
      setDot_dot, setDot_setDot, setDot_setDot]
    congr 2
    exact (Nat.sub_add_comm h).symm

/-! ## `PpuAdvance` (R441) -/

theorem ppuTransition_lcdc (s : State) : (ppuTransition s).ppu.lcdc = s.ppu.lcdc := by
  cases hm : s.ppu.mode with
  | oamScan =>
    rw [ppuTransition_oamScan hm]
    rfl
  | pixelPut => rw [ppuTransition_pixelPut hm, enterHBlank_eq]
  | hBlank => rw [ppuTransition_hBlank hm, leaveHBlank_eq]
  | vBlank => rw [ppuTransition_vBlank hm, leaveVBlankLine_eq]

theorem ppuSettle_lcdc (s : State) : (ppuSettle s).ppu.lcdc = s.ppu.lcdc :=
  ppuSettle_keeps (P := fun u => u.ppu.lcdc = s.ppu.lcdc) (fun _ _ h => h)
    (fun u h => (ppuTransition_lcdc u).trans h) rfl

theorem ppuSettle_inMode {s : State} (h : ppuInMode s) : ppuInMode (ppuSettle s) :=
  ppuSettle_keeps (P := ppuInMode) (fun _ _ => setDot_inMode) (fun _ => ppuTransition_inMode) h

theorem lcdcBit_ppuAdvance {n : Nat} {s : State} (h : lcdcBit 7 s = true) : lcdcBit 7 (ppuAdvance n s) = true := by
  rw [ppuAdvance_on n h, lcdcBit, ppuSettle_lcdc]
  exact h

/-- The ranges hold again after any number of dots (R442 to R449). -/
theorem ppuAdvance_inRange (n : Nat) {s : State} (h : ppuInRange s) : ppuInRange (ppuAdvance n s) := by
  obtain ⟨hmode, hdot, hoff⟩ := (ppuInRange_iff s).mp h
  rw [ppuInRange_iff]
  cases hon : lcdcBit 7 s with
  | true =>
    have hstill := lcdcBit_ppuAdvance (n := n) hon
    rw [ppuAdvance_on n hon] at hstill ⊢
    have hset := setDot_inMode (d := s.ppu.dot + n) hmode
    exact ⟨ppuSettle_inMode hset, ppuSettle_dot_lt hset, fun hno => by simp [hstill] at hno⟩
  | false =>
    obtain ⟨hly, hvb, hlen, h40, hextra, hnone, hpos, hmax⟩ := hmode
    rw [ppuAdvance_off n hon]
    unfold ppuOffTick
    dsimp only
    split
    · exact ⟨⟨hly, hvb, hlen, h40, hextra, hnone, (by decide : (0 : Int) < 70224), le_rfl⟩, hdot, hoff⟩
    next hleft =>
      have hrange : 0 < s.ppu.offBudget - n ∧ s.ppu.offBudget - n ≤ 70224 := by omega
      exact ⟨⟨hly, hvb, hlen, h40, hextra, hnone, hrange⟩, hdot, hoff⟩

theorem ppuAdvance_add (m n : Nat) {s : State} (h : ppuInMode s) (hon : lcdcBit 7 s = true) :
    ppuAdvance n (ppuAdvance m s) = ppuAdvance (m + n) s := by
  rw [ppuAdvance_on n (lcdcBit_ppuAdvance hon), ppuAdvance_on m hon, ppuAdvance_on (m + n) hon,
    ppuSettle_add n (setDot_inMode h), setDot_dot, setDot_setDot, Nat.add_assoc]

/-- Short of the mode's length only the dot moves. -/
theorem ppuAdvance_within_mode {n : Nat} {s : State} (hon : lcdcBit 7 s = true)
    (h : s.ppu.dot + n < modeLength s.ppu.mode s.ppu.spriteExtra) : ppuAdvance n s = setDot (s.ppu.dot + n) s := by
  rw [ppuAdvance_on n hon, ppuSettle_of_lt h]

/-- Enough dots for one mode change and not for two. -/
theorem ppuAdvance_one_transition {n : Nat} {s : State} (hon : lcdcBit 7 s = true)
    (hle : modeLength s.ppu.mode s.ppu.spriteExtra ≤ s.ppu.dot + n)
    (hlt : s.ppu.dot + n - modeLength s.ppu.mode s.ppu.spriteExtra <
      modeLength (ppuTransition s).ppu.mode (ppuTransition s).ppu.spriteExtra) :
    ppuAdvance n s = setDot (s.ppu.dot + n - modeLength s.ppu.mode s.ppu.spriteExtra) (ppuTransition s) := by
  rw [ppuAdvance_on n hon]
  refine (ppuLoop_succ (s := setDot (s.ppu.dot + n) s) _ hle).trans ?_
  rw [ppuTransition_setDot]
  exact ppuLoop_of_lt _ hlt

end Sys2Proof.Machine

open Sys2Proof.Machine

/-- Settles O47: each clause is `ppuAdvance_one_transition` for its mode, the next mode being longer than the dots left
over. -/
theorem ppuModeTransitions : Obligations.PpuModeTransitions := by
  intro n s hon d stat compare
  have hnext {len : Nat} {t : State} (hT : ppuTransition s = t) (hlen : modeLength s.ppu.mode s.ppu.spriteExtra = len)
      (hle : len ≤ d) (hlt : d - len < modeLength t.ppu.mode t.ppu.spriteExtra) :
      ppuAdvance n s = setDot (d - len) t := by
    subst hT hlen
    exact ppuAdvance_one_transition hon hle hlt
  refine ⟨fun h => ppuAdvance_within_mode hon h, fun hm hle hlt => ?_, fun hm hle hlt => ?_, fun hm hly hle hlt => ?_,
    fun hm hly hle hlt => ?_⟩
  · refine hnext (ppuTransition_oamScan hm) (by rw [hm]; rfl) hle ?_
    show d - 80 < 172 + _
    omega
  · have hT := (ppuTransition_pixelPut hm).trans (enterHBlank_eq s)
    generalize (renderLine s.ppu.ly.toNat s).ppu.fb = fb at hT ⊢
    refine hnext hT (by rw [hm]; rfl) hle ?_
    show d - (172 + s.ppu.spriteExtra) < 204 - s.ppu.spriteExtra
    omega
  · intro ly
    have hT := (ppuTransition_hBlank hm).trans (leaveHBlank_eq s)
    have hvisible : (s.ppu.ly + 1).toNat < 144 ↔ ¬s.ppu.ly + 1 = 144 := by bv_omega
    simp only [hvisible, ite_not] at hT
    refine hnext hT (by rw [hm]; rfl) hle ?_
    show d - (204 - s.ppu.spriteExtra) < modeLength (if ly = 144 then .vBlank else .oamScan) 0
    split
    · show d - _ < 456
      omega
    · show d - _ < 80
      omega
  · intro ly
    have hT := (ppuTransition_vBlank hm).trans (leaveVBlankLine_eq s)
    rw [hm] at hT
    refine hnext hT (by rw [hm]; rfl) hle ?_
    show d - 456 < modeLength (if s.ppu.ly = 153 then .oamScan else .vBlank) s.ppu.spriteExtra
    split
    · show d - 456 < 80
      omega
    · show d - 456 < 456
      omega

/-- Settles O48: the mode lengths are positive in range, so the loop does not depend on where the dots are split. -/
theorem ppuTimeIsAdditive : Obligations.PpuTimeIsAdditive :=
  fun m n s h hon => ppuAdvance_add m n ((ppuInRange_iff s).mp h).1 hon

end

section
/-! PROOF. One line is 456 dots and one frame 154 lines (spec/61_ppu.md R442 to R446, R464): from the start of a line, whatever its sprites cost, to the start of the next. -/

namespace Sys2Proof.Machine

theorem withStatRequest_bit0 (k : Nat) (p : Ppu) (r : BitVec 5) : (withStatRequest k p r).getLsbD 0 = r.getLsbD 0 := by
  unfold withStatRequest
  split
  · rw [BitVec.getLsbD_or]
    exact Bool.or_false _
  · rfl

theorem withLycCompare_bit0 (ly : Byte) (p : Ppu) (r : BitVec 5) :
    (withLycCompare ly p r).getLsbD 0 = r.getLsbD 0 := by
  unfold withLycCompare
  split
  · exact withStatRequest_bit0 3 p r
  · rfl

/-- The line after the last visible one requests the VBlank interrupt (R445). -/
theorem leaveHBlank_vblank (s : State) : (leaveHBlank s).ifReg.getLsbD 0 = true ∨ (s.ppu.ly + 1).toNat < 144 := by
  by_cases h : (s.ppu.ly + 1).toNat < 144
  · exact .inr h
  · left
    rw [leaveHBlank_eq]
    simp only [h, if_false]
    rw [withLycCompare_bit0, withStatRequest_bit0, BitVec.getLsbD_or]
    exact Bool.or_true _

/-- No transition lowers the frame pulse; only the beginning of a step does (R464). -/
theorem ppuAdvance_frameValid {n : Nat} {s : State} (hon : lcdcBit 7 s = true) (h : s.frameValid = true) :
    (ppuAdvance n s).frameValid = true := by
  rw [ppuAdvance_on n hon]
  refine ppuSettle_keeps (P := fun u => u.frameValid = true) (fun _ _ h => h) (fun u hu => ?_) h
  cases hm : u.ppu.mode with
  | oamScan =>
    rw [ppuTransition_oamScan hm]
    exact hu
  | pixelPut =>
    rw [ppuTransition_pixelPut hm, enterHBlank_eq]
    exact hu
  | hBlank =>
    rw [ppuTransition_hBlank hm, leaveHBlank_eq]
    exact hu
  | vBlank =>
    rw [ppuTransition_vBlank hm, leaveVBlankLine_eq]
    simp only [hu, ite_self]

/-- The first dot of line `k` of a frame that has not been completed: its VBlank interrupt is requested once the line is
past the visible ones. -/
def AtLineStart (k : Nat) (s : State) : Prop :=
  ppuInRange s ∧ lcdcBit 7 s = true ∧ s.ppu.dot = 0 ∧ s.ppu.ly.toNat = k ∧
    s.ppu.mode = (if k < 144 then .oamScan else .vBlank) ∧ s.frameValid = false ∧ (144 ≤ k → s.ifReg.getLsbD 0 = true)

/-- One turn of the loop, with the mode's transition and length named. -/
theorem ppuSettle_turn {d len : Nat} {s t : State} (hs : ppuInMode s) (ht : ppuTransition s = t)
    (hlen : modeLength s.ppu.mode s.ppu.spriteExtra = len) (hle : len ≤ d) :
    ppuSettle (setDot d s) = ppuSettle (setDot (d - len) t) := by
  subst ht hlen
  rw [ppuSettle_of_le (s := setDot d s) hs hle, ppuTransition_setDot]
  rfl

theorem ppuSettle_setDot_zero {s : State} (hs : ppuInMode s) : ppuSettle (setDot 0 s) = setDot 0 s :=
  ppuSettle_of_lt (s := setDot 0 s) (modeLength_pos hs)

/-- The state at the end of a visible line, after its three mode changes. -/
def afterVisibleLine (s : State) : State := leaveHBlank (enterHBlank (enterPixelPut s))

theorem afterVisibleLine_parts (s : State) :
    (afterVisibleLine s).ppu.ly = s.ppu.ly + 1 ∧
      (afterVisibleLine s).ppu.mode = (if (s.ppu.ly + 1).toNat < 144 then .oamScan else .vBlank) ∧
      (afterVisibleLine s).frameValid = s.frameValid ∧
      ((afterVisibleLine s).ifReg.getLsbD 0 = true ∨ (s.ppu.ly + 1).toNat < 144) := by
  have hly : (enterHBlank (enterPixelPut s)).ppu.ly = s.ppu.ly := by rw [enterHBlank_eq]; rfl
  have hvalid : (enterHBlank (enterPixelPut s)).frameValid = s.frameValid := by rw [enterHBlank_eq]; rfl
  have hvblank := leaveHBlank_vblank (enterHBlank (enterPixelPut s))
  rw [hly] at hvblank
  unfold afterVisibleLine
  refine ⟨?_, ?_, ?_, hvblank⟩
  · rw [leaveHBlank_eq, hly]
  · rw [leaveHBlank_eq, hly]
  · rw [leaveHBlank_eq, hvalid]

/-- A visible line is 80, then 172 and 204 dots, whatever the penalty moves between the last two. -/
theorem ppuAdvance_visible_line {s : State} (hs : ppuInMode s) (hon : lcdcBit 7 s = true)
    (hmode : s.ppu.mode = .oamScan) (hdot : s.ppu.dot = 0) :
    ppuAdvance 456 s = setDot 0 (afterVisibleLine s) := by
  have hT1 := ppuTransition_oamScan hmode
  have hs1 := hT1 ▸ ppuTransition_inMode hs
  have hmode1 : (enterPixelPut s).ppu.mode = .pixelPut := rfl
  obtain ⟨u, hu⟩ : ∃ u, enterPixelPut s = u := ⟨_, rfl⟩
  unfold afterVisibleLine
  rw [hu] at hT1 hs1 hmode1 ⊢
  have hT2 := ppuTransition_pixelPut hmode1
  have hs2 := hT2 ▸ ppuTransition_inMode hs1
  have hmode2 : (enterHBlank u).ppu.mode = .hBlank := by rw [enterHBlank_eq]
  have hextra2 : (enterHBlank u).ppu.spriteExtra = u.ppu.spriteExtra := by rw [enterHBlank_eq]
  obtain ⟨v, hv⟩ : ∃ v, enterHBlank u = v := ⟨_, rfl⟩
  rw [hv] at hT2 hs2 hmode2 hextra2 ⊢
  have hT3 := ppuTransition_hBlank hmode2
  have hs3 := hT3 ▸ ppuTransition_inMode hs2
  have hextra := spriteExtra_le hs1
  have hlen1 : modeLength s.ppu.mode s.ppu.spriteExtra = 80 := by rw [hmode]; rfl
  have hlen2 : modeLength u.ppu.mode u.ppu.spriteExtra = 172 + u.ppu.spriteExtra := by rw [hmode1]; rfl
  have hlen3 : modeLength v.ppu.mode v.ppu.spriteExtra = 204 - u.ppu.spriteExtra := by rw [hmode2, hextra2]; rfl
  have hnone : 456 - 80 - (172 + u.ppu.spriteExtra) - (204 - u.ppu.spriteExtra) = 0 := by omega
  rw [ppuAdvance_on 456 hon, hdot, ppuSettle_turn hs hT1 hlen1 (by omega), ppuSettle_turn hs1 hT2 hlen2 (by omega),
    ppuSettle_turn hs2 hT3 hlen3 (by omega), hnone, ppuSettle_setDot_zero hs3]

/-- A VBlank line is 456 dots. -/
theorem ppuAdvance_vblank_line {s : State} (hs : ppuInMode s) (hon : lcdcBit 7 s = true)
    (hmode : s.ppu.mode = .vBlank) (hdot : s.ppu.dot = 0) : ppuAdvance 456 s = setDot 0 (leaveVBlankLine s) := by
  have hT := ppuTransition_vBlank hmode
  have hlen : modeLength s.ppu.mode s.ppu.spriteExtra = 456 := by rw [hmode]; rfl
  rw [ppuAdvance_on 456 hon, hdot, ppuSettle_turn hs hT hlen le_rfl]
  exact ppuSettle_setDot_zero (hT ▸ ppuTransition_inMode hs)

theorem AtLineStart.inMode {k : Nat} {s : State} (h : AtLineStart k s) : ppuInMode s := ((ppuInRange_iff s).mp h.1).1

theorem AtLineStart.on {k : Nat} {s : State} (h : AtLineStart k s) : lcdcBit 7 s = true := h.2.1

theorem AtLineStart.next {k : Nat} {s : State} (h : AtLineStart k s) (hk : k < 153) :
    AtLineStart (k + 1) (ppuAdvance 456 s) := by
  obtain ⟨hrange, hon, hdot, hly, hmode, hvalid, hvblank⟩ := h
  have hly1 : (s.ppu.ly + 1).toNat = k + 1 := by bv_omega
  have hin := ((ppuInRange_iff s).mp hrange).1
  have hrange' := ppuAdvance_inRange 456 hrange
  have hon' := lcdcBit_ppuAdvance (n := 456) hon
  by_cases hvis : k < 144
  · rw [if_pos hvis] at hmode
    obtain ⟨aly, amode, avalid, avblank⟩ := afterVisibleLine_parts s
    have hline := ppuAdvance_visible_line hin hon hmode hdot
    rw [hly1] at amode avblank
    obtain ⟨u, hu⟩ : ∃ u, afterVisibleLine s = u := ⟨_, rfl⟩
    rw [hu] at aly amode avalid avblank hline
    rw [hline] at hrange' hon' ⊢
    exact ⟨hrange', hon', rfl, (congrArg BitVec.toNat aly).trans hly1, amode, avalid.trans hvalid,
      fun hlast => avblank.resolve_right (Nat.not_lt_of_le hlast)⟩
  · rw [if_neg hvis] at hmode
    have hnot : ¬s.ppu.ly = 153 := by bv_omega
    have hline := ppuAdvance_vblank_line hin hon hmode hdot
    rw [leaveVBlankLine_eq] at hline
    simp only [hnot, if_false] at hline
    rw [hline] at hrange' hon' ⊢
    refine ⟨hrange', hon', rfl, hly1, ?_, hvalid, fun _ => (withLycCompare_bit0 _ _ _).trans (hvblank (by omega))⟩
    rw [if_neg (by omega)]
    exact hmode

/-- The lines of a frame follow each other. -/
theorem AtLineStart.lines {s : State} (h : AtLineStart 0 s) : ∀ k ≤ 153, AtLineStart k (ppuAdvance (456 * k) s)
  | 0, _ => by
    have hdot : s.ppu.dot = 0 := h.2.2.1
    rw [ppuAdvance_within_mode h.on]
    · exact h
    · rw [hdot]
      exact modeLength_pos h.inMode
  | k + 1, hk => by
    have hnext := (h.lines k (Nat.le_of_succ_le hk)).next hk
    rwa [ppuAdvance_add _ _ h.inMode h.on, ← Nat.mul_succ] at hnext

/-- The end of line 153 completes the frame. -/
theorem AtLineStart.frame_end {s : State} (h : AtLineStart 153 s) :
    (ppuAdvance 456 s).frameValid = true ∧ (ppuAdvance 456 s).ppu.dot = 0 ∧ (ppuAdvance 456 s).ppu.ly = 0 ∧
      (ppuAdvance 456 s).ppu.mode = .oamScan ∧ (ppuAdvance 456 s).ifReg.getLsbD 0 = true := by
  have hin := h.inMode
  obtain ⟨-, hon, hdot, hnum, hmode, -, hvblank⟩ := h
  have hly : s.ppu.ly = 153 := BitVec.eq_of_toNat_eq hnum
  rw [ppuAdvance_vblank_line hin hon hmode hdot, leaveVBlankLine_eq]
  simp only [hly, if_true]
  refine ⟨rfl, rfl, rfl, rfl, ?_⟩
  exact (withLycCompare_bit0 _ _ _).trans ((withStatRequest_bit0 _ _ _).trans (hvblank (by omega)))

/-- Before its last dot a frame has not pulsed. -/
theorem AtLineStart.no_frame {s : State} (h : AtLineStart 0 s) {n : Nat} (hn : n < 70224) :
    (ppuAdvance n s).frameValid = false := by
  have h153 := h.lines 153 le_rfl
  have hlast : (ppuAdvance 455 (ppuAdvance (456 * 153) s)).frameValid = false := by
    obtain ⟨-, hon, hdot, -, hmode, hvalid, -⟩ := h153
    rw [ppuAdvance_within_mode hon]
    · exact hvalid
    · rw [hdot, hmode]
      exact Nat.lt_of_lt_of_eq (by decide : 0 + 455 < 456) rfl
  rw [ppuAdvance_add _ _ h.inMode h.on] at hlast
  by_contra hne
  have hlater := ppuAdvance_frameValid (n := 70223 - n) (lcdcBit_ppuAdvance h.on) (Bool.eq_true_of_not_eq_false hne)
  rw [ppuAdvance_add _ _ h.inMode h.on, show n + (70223 - n) = 456 * 153 + 455 by omega, hlast] at hlater
  exact Bool.false_ne_true hlater

end Sys2Proof.Machine

open Sys2Proof.Machine

/-- Settles O49: the three modes of a visible line make 456 dots, and the 154 lines of a frame follow each other. -/
theorem lineAndFrameLength : Obligations.LineAndFrameLength := by
  intro s hs hon hmode hdot
  have hin := ((ppuInRange_iff s).mp hs).1
  refine ⟨?_, fun hly hvalid => ?_⟩
  · obtain ⟨aly, amode, -⟩ := afterVisibleLine_parts s
    have hlast : (s.ppu.ly + 1).toNat < 144 ↔ ¬s.ppu.ly = 143 := by
      have hvis : ¬144 ≤ s.ppu.ly.toNat := mt hin.2.1.mpr (by simp [hmode])
      bv_omega
    simp only [hlast, ite_not] at amode
    rw [ppuAdvance_visible_line hin hon hmode hdot]
    generalize afterVisibleLine s = u at aly amode ⊢
    exact ⟨rfl, aly, amode⟩
  · have hstart : AtLineStart 0 s := ⟨hs, hon, hdot, congrArg BitVec.toNat hly, hmode, hvalid, nofun⟩
    refine ⟨fun n hn => hstart.no_frame hn, ?_⟩
    have hend := (hstart.lines 153 le_rfl).frame_end
    rwa [ppuAdvance_add _ _ hin hon] at hend

end

section
/-! PROOF. The invariant (spec/10_state.md sections 1, 6 and 7) kept by a CPU write, by an instruction, by the interrupt entry and by the three devices, and so by a step. -/

namespace Sys2Proof.Machine

/-! ## The ranges of the devices -/

/-- Both edges of LCDC bit 7 leave the PPU at dot 0 of a mode its line may have (R447). -/
theorem writeLcdc_inRange (v : Byte) {s : State} (h : ppuInRange s) : ppuInRange { s with ppu := writeLcdc v s.ppu } := by
  obtain ⟨hly, hvb, hdot, hlen, h40, hextra, hnone, hoff, hpos, hmax⟩ := h
  unfold writeLcdc
  dsimp only
  split
  · exact ⟨Nat.zero_le _, iff_of_false nofun (by decide : ¬144 ≤ (0 : Byte).toNat), (by decide : 0 < 204 - 0), Nat.zero_le _, nofun, rfl, fun _ => rfl,
      fun _ => ⟨rfl, rfl, rfl, rfl⟩, (by decide : (0 : Int) < 70224), le_rfl⟩
  split
  next hrise =>
    obtain ⟨-, hon⟩ := Bool.and_eq_true_iff.mp hrise
    exact ⟨Nat.zero_le _, iff_of_false nofun (by decide : ¬144 ≤ (0 : Byte).toNat), (by decide : 0 < 80), Nat.zero_le _, nofun, rfl, fun _ => rfl,
      fun hno => absurd hon (Bool.eq_false_iff.mp hno), hpos, hmax⟩
  next hfall _ =>
    have hwas (hno : v.getLsbD 7 = false) : lcdcBit 7 s = false := by
      rw [hno] at hfall
      simpa [lcdcBit] using hfall
    exact ⟨hly, hvb, hdot, hlen, h40, hextra, hnone, fun hno => hoff (hwas hno), hpos, hmax⟩

theorem writeIo_ppuInRange (r : IoReg) (v : Byte) (s : State) (h : ppuInRange s) : ppuInRange (writeIo r v s) := by
  cases r
  case lcdc => exact writeLcdc_inRange v h
  case boot => dsimp only [writeIo]; split <;> exact h
  all_goals exact h

theorem writeIo_dmaInRange (r : IoReg) (v : Byte) (s : State) (h : dmaInRange s) : dmaInRange (writeIo r v s) := by
  cases r
  case dma => exact ⟨Nat.zero_le _, fun _ => (by decide : 0 < 160)⟩
  case boot => dsimp only [writeIo]; split <;> exact h
  all_goals exact h

/-! ## The invariant but for F -/

/-- The invariant without what it says of F. -/
def storageAndDevicesOk (s : State) : Prop := storageOk s ∧ ppuInRange s ∧ dmaInRange s

theorem inv_iff (s : State) : Inv s ↔ flagNibbleClear s ∧ storageAndDevicesOk s := by
  unfold Inv storageAndDevicesOk storageOk
  tauto

theorem busWrite_storageAndDevicesOk (a : Word) (v : Byte) (s : State) (h : storageAndDevicesOk s) :
    storageAndDevicesOk (busWrite a v s) := by
  obtain ⟨hstorage, hppu, hdma⟩ := h
  refine ⟨busWrite_storageOk a v s hstorage, busWrite_keeps ?_ writeIo_ppuInRange a v s hppu,
    busWrite_keeps ?_ writeIo_dmaInRange a v s hdma⟩
  · exact fun s t e h => by rw [e.1]; exact h
  · exact fun s t e h => by rw [e.1]; exact h

theorem Runs.storageAndDevicesOk {n : Nat} {s t : State} (h : Runs n s t) :
    Machine.storageAndDevicesOk s → Machine.storageAndDevicesOk t :=
  h.keeps ⟨fun _ _ _ _ _ => id, busWrite_storageAndDevicesOk⟩

/-- An instruction keeps the invariant. -/
theorem exec_inv {i : Instr} {s t : State} (h : exec i s = .next t) (hs : Inv s) : Inv t := by
  obtain ⟨n, u, hrun, -, hctl⟩ := exec_next h
  obtain ⟨hnibble, hok⟩ := (inv_iff s).mp hs
  have hu : Inv u := (inv_iff u).mpr ⟨hrun.nibble hnibble, hrun.storageAndDevicesOk hok⟩
  obtain rfl | ⟨-, rfl⟩ | ⟨-, rfl⟩ | ⟨-, rfl⟩ | ⟨-, rfl⟩ | ⟨op, -, rfl⟩ := hctl <;> exact hu

/-! ## The phases of a step -/

theorem beforeInstruction_inv {s : State} (h : Inv s) : Inv (beforeInstruction s) := by
  rw [beforeInstruction_eq]
  exact h

theorem fetchInstr_inv {s : State} (h : Inv s) : Inv (fetchInstr s).2 := by
  rw [fetchInstr_state]
  exact h

theorem enterInterrupt_inv (i : IntSource) {s : State} (h : Inv s) : Inv (enterInterrupt i s) := by
  have hrun : Runs 5 s (push16 s.pc (tick 12 s)) := (Runs.tick 3 s).seq (runs_push16 _ _)
  obtain ⟨hnibble, hok⟩ := (inv_iff s).mp h
  exact (inv_iff _).mpr ⟨hrun.nibble hnibble, hrun.storageAndDevicesOk hok⟩

theorem resolveInterrupts_inv {s : State} (h : Inv s) : Inv (resolveInterrupts s) := by
  unfold resolveInterrupts
  split
  · exact h
  · dsimp only
    split
    · exact enterInterrupt_inv _ (s := { s with halted := false }) h
    · exact h

theorem enterHBlank_fb (s : State) : (enterHBlank s).ppu.fb = (renderLine s.ppu.ly.toNat s).ppu.fb := by
  rw [enterHBlank_eq]

/-- A transition renders at most the visible line it is on, so the framebuffer stays in its size (R444, R460). -/
theorem ppuTransition_storageOk {s : State} (hmode : ppuInMode s) (h : storageOk s) : storageOk (ppuTransition s) := by
  have hfb : Framebuffer.wf (ppuTransition s).ppu.fb ∧ Framebuffer.within (ppuTransition s).ppu.fb = true := by
    obtain ⟨⟨-, -, -, -, -, -, -, hwf⟩, ⟨-, -, -, -, -, -, -, hin⟩, -⟩ := h
    obtain ⟨-, hvb, -⟩ := hmode
    cases hm : s.ppu.mode with
    | pixelPut =>
      have hvisible : s.ppu.ly.toNat < 144 := Nat.lt_of_not_le (mt hvb.mpr (by simp [hm]))
      rw [ppuTransition_pixelPut hm, enterHBlank_fb]
      exact ⟨renderLine_wf _ s hwf, renderLine_within _ s hvisible hin⟩
    | oamScan =>
      rw [ppuTransition_oamScan hm]
      exact ⟨hwf, hin⟩
    | hBlank =>
      rw [ppuTransition_hBlank hm, leaveHBlank_eq]
      exact ⟨hwf, hin⟩
    | vBlank =>
      rw [ppuTransition_vBlank hm, leaveVBlankLine_eq]
      exact ⟨hwf, hin⟩
  obtain ⟨⟨w1, w2, w3, w4, w5, w6, w7, -⟩, ⟨i1, i2, i3, i4, i5, i6, i7, -⟩, hbanks⟩ := h
  rw [ppuTransition_ppuOnly s]
  exact ⟨⟨w1, w2, w3, w4, w5, w6, w7, hfb.1⟩, ⟨i1, i2, i3, i4, i5, i6, i7, hfb.2⟩, hbanks⟩

theorem ppuAdvance_storageOk (n : Nat) {s : State} (hmode : ppuInMode s) (h : storageOk s) : storageOk (ppuAdvance n s) := by
  cases hon : lcdcBit 7 s with
  | true =>
    rw [ppuAdvance_on n hon]
    have hkept := ppuSettle_keeps (P := fun u => ppuInMode u ∧ storageOk u) (fun _ _ => id)
      (fun u hu => ⟨ppuTransition_inMode hu.1, ppuTransition_storageOk hu.1 hu.2⟩) (s := setDot (s.ppu.dot + n) s)
      ⟨hmode, h⟩
    exact hkept.2
  | false =>
    rw [ppuAdvance_off n hon]
    unfold ppuOffTick
    dsimp only
    split <;> exact h

theorem ppuAdvance_inv (n : Nat) {s : State} (h : Inv s) : Inv (ppuAdvance n s) := by
  obtain ⟨hnibble, hstorage, hppu, hdma⟩ := (inv_iff s).mp h
  have hmode := ((ppuInRange_iff s).mp hppu).1
  refine (inv_iff _).mpr ⟨?_, ppuAdvance_storageOk n hmode hstorage, ppuAdvance_inRange n hppu, ?_⟩
  · rw [ppuAdvance_ppuOnly n s]
    exact hnibble
  · rw [ppuAdvance_ppuOnly n s]
    exact hdma

theorem timerAdvance_inv (n : Nat) {s : State} (h : Inv s) : Inv (timerAdvance n s) := by
  rw [timerAdvance_timerOnly n s]
  exact h

theorem dmaCopies_storageOk (k : Nat) : ∀ s : State, s.dma.index + k ≤ 160 → storageOk s → storageOk (dmaCopies k s) := by
  induction k with
  | zero => exact fun s _ h => h
  | succ k ih =>
    intro s hk h
    have e := dmaCopy_eq s (by omega)
    refine ih (dmaCopy s) (by rw [e]; dsimp only; omega) ?_
    obtain ⟨⟨w1, w2, w3, w4, w5, w6, w7, w8⟩, ⟨i1, i2, i3, i4, i5, i6, i7, i8⟩, hbanks⟩ := h
    rw [e]
    exact ⟨⟨w1, w2, w3, w4, w5, Memory.write_wf _ _ _ w6, w7, w8⟩,
      ⟨i1, i2, i3, i4, i5, Memory.write_within _ _ _ _ (by omega) i6, i7, i8⟩, hbanks⟩

/-- The DMA engine copies within OAM and stops at its end (R511). -/
theorem dmaAdvance_inv (n : Nat) {s : State} (h : Inv s) : Inv (dmaAdvance n s) := by
  obtain ⟨hnibble, hstorage, hppu, hindex, hactive⟩ := (inv_iff s).mp h
  have hframe := dmaAdvance_dmaOnly n s hindex
  have hparts : storageOk (dmaAdvance n s) ∧ dmaInRange (dmaAdvance n s) := by
    unfold dmaAdvance
    split
    next hon =>
      have hk : s.dma.index + min (n / 4) (160 - s.dma.index) ≤ 160 := by omega
      have hcopied := dmaCopies_storageOk _ s hk hstorage
      have hlast := (dmaCopies_dmaOnly _ s hk).2
      dsimp only
      split
      · exact ⟨hcopied, hlast.trans_le hk, nofun⟩
      next hne => exact ⟨hcopied, hlast.trans_le hk, fun _ => Nat.lt_of_le_of_ne (hlast.trans_le hk) hne⟩
    · exact ⟨hstorage, hindex, hactive⟩
  refine (inv_iff _).mpr ⟨?_, hparts.1, ?_, hparts.2⟩
  · rw [hframe]
    exact hnibble
  · rw [hframe]
    exact hppu

theorem tickDevices_inv {s : State} (h : Inv s) : Inv (tickDevices s) :=
  dmaAdvance_inv _ (timerAdvance_inv _ (ppuAdvance_inv _ h))

theorem afterInstruction_inv {s : State} (h : Inv s) : Inv (afterInstruction s) :=
  tickDevices_inv (s := accumulateCycles (resolveInterrupts s)) (resolveInterrupts_inv h)

theorem finishStep_inv {s : State} (h : Inv s) : Inv (finishStep s) := by
  unfold finishStep
  split
  · exact h
  · exact afterInstruction_inv h

/-- The two ways a step gives a next state (R400): halted, or through an instruction. -/
theorem step_next {s t : State} (h : step s = .next t) :
    s.fault = false ∧
      (s.halted = true ∧ t = afterInstruction (tick 4 (beforeInstruction s)) ∨
        s.halted = false ∧ ∃ u, exec (fetchInstr (beforeInstruction s)).1 (fetchInstr (beforeInstruction s)).2 = .next u ∧
          t = finishStep u) := by
  obtain ⟨-, -, -, -, hhalted, -⟩ := beforeInstruction_parts s
  unfold step at h
  split at h
  · exact absurd h nofun
  next hfault =>
    refine ⟨Bool.eq_false_iff.mpr hfault, ?_⟩
    dsimp only at h
    rw [hhalted] at h
    split at h
    next hhalt => exact .inl ⟨hhalt, (Host.Outcome.next.inj h).symm⟩
    next hrun =>
      refine .inr ⟨Bool.eq_false_iff.mpr hrun, ?_⟩
      split at h
      next u hu => exact ⟨u, hu, (Host.Outcome.next.inj h).symm⟩
      all_goals exact absurd h nofun

theorem step_inv {s t : State} (h : Inv s) (hstep : step s = .next t) : Inv t := by
  obtain ⟨-, ⟨-, rfl⟩ | ⟨-, u, hu, rfl⟩⟩ := step_next hstep
  · exact afterInstruction_inv (beforeInstruction_inv h)
  · exact finishStep_inv (exec_inv hu (fetchInstr_inv (beforeInstruction_inv h)))

end Sys2Proof.Machine

open Sys2Proof.Machine

/-- Settles O58: every phase of a step keeps the invariant. -/
theorem stepKeepsTheInvariant : Obligations.StepKeepsTheInvariant :=
  fun _ _ => step_inv

end

section
/-! PROOF. Interrupt resolution (spec/60_exceptions.md R406 to R412): the source of highest priority is the lowest set bit, and the entry is two CPU writes and a write of IF. The halted step follows from it. -/

namespace Sys2Proof.Machine

theorem highestPriority_zero : highestPriority 0 = none := rfl

theorem highestPriority_isSome {p : BitVec 5} : p ≠ 0 → (highestPriority p).isSome = true := by
  revert p
  decide

/-- The source entered is the lowest set bit (R411). -/
theorem highestPriority_lowest (i : IntSource) {p : BitVec 5} (hbit : p.getLsbD i.bit = true)
    (hlow : ∀ j < i.bit, p.getLsbD j = false) : highestPriority p = some i := by
  have hskip (j : Nat) (hj : j < i.bit) : ¬p.getLsbD j = true := Bool.eq_false_iff.mp (hlow j hj)
  unfold highestPriority
  cases i with
  | vblank => exact if_pos hbit
  | stat =>
    rw [if_neg (hskip 0 (by decide))]
    exact if_pos hbit
  | timer =>
    rw [if_neg (hskip 0 (by decide)), if_neg (hskip 1 (by decide))]
    exact if_pos hbit
  | serial =>
    rw [if_neg (hskip 0 (by decide)), if_neg (hskip 1 (by decide)), if_neg (hskip 2 (by decide))]
    exact if_pos hbit
  | joypad =>
    rw [if_neg (hskip 0 (by decide)), if_neg (hskip 1 (by decide)), if_neg (hskip 2 (by decide)),
      if_neg (hskip 3 (by decide))]
    exact if_pos hbit

theorem exists_source_of_bit {k : Nat} (hk : k < 5) : ∃ i : IntSource, i.bit = k := by
  have hall : ∀ k : Fin 5, ∃ i ∈ [IntSource.vblank, .stat, .timer, .serial, .joypad], i.bit = k := by decide
  obtain ⟨i, -, hi⟩ := hall ⟨k, hk⟩
  exact ⟨i, hi⟩

theorem vector_eq (i : IntSource) : i.vector = BitVec.ofNat 16 (0x40 + 8 * i.bit) := by
  cases i <;> rfl

/-! ## The three outcomes (R410) -/

theorem resolveInterrupts_none {s : State} (h : pendingInterrupts s = 0) : resolveInterrupts s = s := by
  unfold resolveInterrupts
  rw [h, highestPriority_zero]

theorem resolveInterrupts_wakes {s : State} (h : pendingInterrupts s ≠ 0) (hime : s.ime = false) :
    resolveInterrupts s = { s with halted := false } := by
  obtain ⟨i, hi⟩ := Option.isSome_iff_exists.mp (highestPriority_isSome h)
  unfold resolveInterrupts
  rw [hi]
  exact if_neg (Bool.eq_false_iff.mp hime)

theorem resolveInterrupts_enters {s : State} {i : IntSource} (h : highestPriority (pendingInterrupts s) = some i)
    (hime : s.ime = true) : resolveInterrupts s = enterInterrupt i { s with halted := false } := by
  unfold resolveInterrupts
  rw [h]
  exact if_pos hime

/-- Every outcome is one of the three. -/
theorem resolveInterrupts_cases (s : State) :
    resolveInterrupts s = s ∨ resolveInterrupts s = { s with halted := false } ∨
      ∃ i, resolveInterrupts s = enterInterrupt i { s with halted := false } := by
  unfold resolveInterrupts
  split
  next => exact .inl rfl
  next i hi =>
    dsimp only
    split
    · exact .inr (.inr ⟨i, rfl⟩)
    · exact .inr (.inl rfl)

/-! ## The entry (R412) -/

/-- The two CPU writes of a push, high byte first (R10). -/
def pushWrites (v : Word) (s : State) : State :=
  busWrite (s.sp - 2) (v.extractLsb' 0 8) (busWrite (s.sp - 1) (v.extractLsb' 8 8) s)

theorem enterInterrupt_eq (i : IntSource) (s : State) :
    enterInterrupt i { s with halted := false } =
      { pushWrites s.pc s with
        halted := false
        sp := s.sp - 2
        stepCycles := s.stepCycles + 20
        ime := false
        imePending := s.imePending && Config.entryKeepsImePending
        ifReg := (pushWrites s.pc s).ifReg &&& ~~~i.mask
        pc := i.vector } := by
  have hcpu (a : Word) (v : Byte) (u : State) (n : Nat) :
      busWrite a v { u with halted := false, stepCycles := n } = { busWrite a v u with halted := false, stepCycles := n } := by
    refine (busWrite_cpu a v u u.regs u.pc u.sp u.ime u.imePending false n).trans ?_
    simp
  unfold enterInterrupt
  dsimp only
  rw [push16_writes]
  dsimp only [tick]
  rw [hcpu, hcpu]
  simp [pushWrites]

/-- Every pending source ends the halt, whatever IME is (R410). -/
theorem resolveInterrupts_halted {s : State} (h : pendingInterrupts s ≠ 0) : (resolveInterrupts s).halted = false := by
  obtain ⟨i, hi⟩ := Option.isSome_iff_exists.mp (highestPriority_isSome h)
  cases hime : s.ime with
  | false => rw [resolveInterrupts_wakes h hime]
  | true => rw [resolveInterrupts_enters hi hime, enterInterrupt_eq]

/-- A change of IF is what a CPU write to it does (R37). -/
theorem busWrite_ifReg (r : BitVec 5) (s : State) : busWrite 0xFF0F (r.zeroExtend 8) s = { s with ifReg := r } := by
  have hlow : (r.zeroExtend 8).extractLsb' 0 5 = r := by
    ext k hk
    simp [hk, Nat.lt_trans hk (by decide : 5 < 8)]
  have hmask : dmaMasks 0xFF0F s = false := Bool.and_false _
  unfold busWrite
  rw [hmask]
  exact congrArg (fun r => { s with ifReg := r }) hlow

theorem enterInterrupt_memory (i : IntSource) {s : State} (hwf : memoriesWf s) :
    memoryKeptExcept [s.sp - 1, s.sp - 2, 0xFF0F] s (enterInterrupt i { s with halted := false }) := by
  intro x hx
  have hx1 := hx (s.sp - 1) (by simp)
  have hx2 := hx (s.sp - 2) (by simp)
  have hx3 := hx 0xFF0F (by simp)
  have hwf1 := busWrite_memoriesWf (s.sp - 1) (s.pc.extractLsb' 8 8) s hwf
  have hwf2 := busWrite_memoriesWf (s.sp - 2) (s.pc.extractLsb' 0 8) _ hwf1
  rw [enterInterrupt_eq]
  calc rawRead x { pushWrites s.pc s with ifReg := (pushWrites s.pc s).ifReg &&& ~~~i.mask }
      = rawRead x (pushWrites s.pc s) := by rw [← busWrite_ifReg]; exact rawRead_busWrite_other _ x _ _ hwf2 hx3
    _ = rawRead x (busWrite (s.sp - 1) (s.pc.extractLsb' 8 8) s) := rawRead_busWrite_other _ x _ _ hwf1 hx2
    _ = rawRead x s := rawRead_busWrite_other _ x _ s hwf hx1

/-! ## The end of a halted step -/

/-- Phases 5 to 8 leave the registers, PC, SP, the control state and the cycles of the step (R400). -/
theorem afterInstruction_frame (s : State) :
    (afterInstruction s).regs = (resolveInterrupts s).regs ∧ (afterInstruction s).pc = (resolveInterrupts s).pc ∧
      (afterInstruction s).sp = (resolveInterrupts s).sp ∧ (afterInstruction s).ime = (resolveInterrupts s).ime ∧
      (afterInstruction s).halted = (resolveInterrupts s).halted ∧
      (afterInstruction s).stepCycles = (resolveInterrupts s).stepCycles := by
  rw [afterInstruction, tickDevices_devicesOnly (accumulateCycles (resolveInterrupts s))]
  exact ⟨rfl, rfl, rfl, rfl, rfl, rfl⟩

theorem resolveInterrupts_regs (s : State) : (resolveInterrupts s).regs = s.regs := by
  obtain h | h | ⟨i, h⟩ := resolveInterrupts_cases s
  · rw [h]
  · rw [h]
  · rw [h]
    exact (enterInterrupt_parts i _).2.2.2.1

theorem step_halted {s : State} (hfault : s.fault = false) (hhalted : s.halted = true) :
    step s = .next (afterInstruction { beforeInstruction s with stepCycles := 4 }) := by
  obtain ⟨hcycles, -, -, -, hstill, -⟩ := beforeInstruction_parts s
  have htick : tick 4 (beforeInstruction s) = { beforeInstruction s with stepCycles := 4 } := by unfold tick; rw [hcycles]
  simp [step, hfault, hstill, hhalted, htick]

end Sys2Proof.Machine

open Sys2Proof.Machine

/-- Settles O38: the entered source is the lowest set bit, and its entry is the two writes of the push and one of IF. -/
theorem resolveInterrupts : Obligations.ResolveInterrupts := by
  intro s p
  refine ⟨resolveInterrupts_none, resolveInterrupts_wakes, fun k hk hbit hlow hime => ?_, resolveInterrupts_regs s,
    fun hclear => ?_, fun hwf => ?_⟩
  · obtain ⟨i, rfl⟩ := exists_source_of_bit hk
    rw [resolveInterrupts_enters (highestPriority_lowest i hbit hlow) hime, enterInterrupt_eq, vector_eq]
    rfl
  · obtain h | h | ⟨i, h⟩ := resolveInterrupts_cases s <;> rw [h]
    · exact hclear
    · exact hclear
    · rw [enterInterrupt_eq, hclear]
      rfl
  · obtain h | h | ⟨i, h⟩ := resolveInterrupts_cases s <;> rw [h]
    · exact fun _ _ => rfl
    · exact fun _ _ => rfl
    · exact enterInterrupt_memory i hwf

/-- Settles O6: the step of a halted core is interrupt resolution, whose outcome phases 5 to 8 leave alone. -/
theorem haltedStep : Obligations.HaltedStep := by
  intro s q p hfault hhalted
  obtain ⟨-, hpc, hsp, hregs, hstill, -⟩ := beforeInstruction_parts s
  have hasleep : q.halted = true := hstill.trans hhalted
  obtain ⟨tregs, tpc, tsp, time, thalted, tcycles⟩ := afterInstruction_frame { q with stepCycles := 4 }
  refine ⟨_, step_halted hfault hhalted, rfl, tregs.trans ((resolveInterrupts_regs _).trans hregs), fun hp => ?_,
    fun hp => ?_, fun hp hime => ?_, fun k hk hbit hlow hime => ?_⟩
  · rw [resolveInterrupts_none (s := { q with stepCycles := 4 }) hp] at tpc tsp thalted tcycles
    exact ⟨thalted.trans hasleep, tpc.trans hpc, tsp.trans hsp, tcycles⟩
  · exact thalted.trans (resolveInterrupts_halted (s := { q with stepCycles := 4 }) hp)
  · rw [resolveInterrupts_wakes (s := { q with stepCycles := 4 }) hp hime] at tpc tsp tcycles
    exact ⟨tpc.trans hpc, tsp.trans hsp, tcycles⟩
  · obtain ⟨i, rfl⟩ := exists_source_of_bit hk
    rw [resolveInterrupts_enters (s := { q with stepCycles := 4 }) (highestPriority_lowest i hbit hlow) hime,
      enterInterrupt_eq] at tpc tsp time tcycles
    exact ⟨tpc.trans (vector_eq i), tsp.trans (congrArg (· - 2) hsp), time, tcycles⟩

end

section
/-! PROOF. What no step changes, and what a step costs (spec/00_scope.md section 4, spec/70_reset_and_hazards.md R545): each phase keeps the constants, and an instruction costs at most 6 machine cycles, an entry 5. -/

namespace Sys2Proof.Machine

/-! ## The constants -/

/-- What the whole run keeps, and the two fields that only the end of a step moves on (R400). -/
def constantsKept (s t : State) : Prop :=
  t.cfg = s.cfg ∧ t.rom.buf = s.rom.buf ∧ t.bootRom = s.bootRom ∧ (t.bootEnabled = true → s.bootEnabled = true) ∧
    sameMapperKind s.mapper t.mapper ∧ t.cycTotal = s.cycTotal ∧ t.joyInputs = s.joyInputs

theorem constantsKept_refl (s : State) : constantsKept s s :=
  ⟨rfl, rfl, rfl, id, sameMapperKind_refl s.mapper, rfl, rfl⟩

/-- A write of BOOT can only take the overlay away (R83). -/
theorem writeIo_bootEnabled (r : IoReg) (v : Byte) (s : State) (h : (writeIo r v s).bootEnabled = true) :
    s.bootEnabled = true := by
  cases r
  case boot =>
    dsimp only [writeIo] at h
    split at h
    · exact h
    · exact absurd h Bool.false_ne_true
  all_goals exact h

theorem busWrite_bootEnabled {a : Word} {v : Byte} {s : State} (h : (busWrite a v s).bootEnabled = true) :
    s.bootEnabled = true :=
  busWrite_keeps (P := fun u => u.bootEnabled = true → s.bootEnabled = true) (fun t u e ht hu => ht (by rwa [e.1] at hu))
    (fun r v u hu ht => hu (writeIo_bootEnabled r v u ht)) a v s id h

theorem writeIo_mapper (r : IoReg) (v : Byte) (s : State) : (writeIo r v s).mapper = s.mapper := by
  cases r
  case boot => dsimp only [writeIo]; split <;> rfl
  all_goals rfl

theorem busWrite_mapperKind (a : Word) (v : Byte) (s : State) : sameMapperKind s.mapper (busWrite a v s).mapper :=
  busWrite_keeps (P := fun u => sameMapperKind s.mapper u.mapper) (fun _ _ e h => sameMapperKind_trans h e.2)
    (fun r v u h => writeIo_mapper r v u ▸ h) a v s (sameMapperKind_refl s.mapper)

theorem keptByRuns_constants (s : State) : KeptByRuns (constantsKept s) := by
  refine ⟨fun _ _ _ _ _ => id, fun a v u ⟨hcfg, hrom, hboot, henabled, hmapper, htotal, hinputs⟩ => ?_⟩
  exact ⟨(busWrite_cfg a v u).trans hcfg, (busWrite_rom_buf a v u).trans hrom, (busWrite_bootRom a v u).trans hboot,
    fun h => henabled (busWrite_bootEnabled h), sameMapperKind_trans hmapper (busWrite_mapperKind a v u),
    (busWrite_cycTotal a v u).trans htotal, (busWrite_joyInputs a v u).trans hinputs⟩

theorem beforeInstruction_constants (s : State) : constantsKept s (beforeInstruction s) := by
  rw [beforeInstruction_eq]
  exact constantsKept_refl s

theorem fetchInstr_constants {s u : State} (h : constantsKept s u) : constantsKept s (fetchInstr u).2 := by
  rw [fetchInstr_state]
  exact h

theorem exec_constants {s u t : State} {i : Instr} (h : constantsKept s u) (hexec : exec i u = .next t) :
    constantsKept s t := by
  obtain ⟨n, w, hrun, -, hctl⟩ := exec_next hexec
  have hw := hrun.keeps (keptByRuns_constants s) h
  obtain rfl | ⟨-, rfl⟩ | ⟨-, rfl⟩ | ⟨-, rfl⟩ | ⟨-, rfl⟩ | ⟨op, -, rfl⟩ := hctl <;> exact hw

theorem resolveInterrupts_constants {s u : State} (h : constantsKept s u) : constantsKept s (resolveInterrupts u) := by
  obtain e | e | ⟨i, e⟩ := resolveInterrupts_cases u <;> rw [e]
  · exact h
  · exact h
  · rw [enterInterrupt_eq]
    obtain ⟨-, hwrite⟩ := keptByRuns_constants s
    exact hwrite _ _ _ (hwrite _ _ _ h)

/-- What the end of a step keeps; it adds the cycles of the step and moves the input list on (R400, log entry 6). -/
theorem afterInstruction_constants {s u : State} (h : constantsKept s u) :
    constantsKept s { afterInstruction u with cycTotal := s.cycTotal, joyInputs := s.joyInputs } ∧
      (afterInstruction u).cycTotal = s.cycTotal + BitVec.ofNat 64 (afterInstruction u).stepCycles ∧
      (afterInstruction u).joyInputs = s.joyInputs.tail := by
  obtain ⟨hcfg, hrom, hboot, henabled, hmapper, htotal, hinputs⟩ := resolveInterrupts_constants h
  rw [afterInstruction, tickDevices_devicesOnly (accumulateCycles (resolveInterrupts u))]
  exact ⟨⟨hcfg, hrom, hboot, henabled, hmapper, rfl, rfl⟩, congrArg (· + BitVec.ofNat 64 _) htotal,
    congrArg List.tail hinputs⟩

/-- The raised fault ends the step, and nothing is added (R404). -/
theorem step_constants {s t : State} (h : step s = .next t) :
    constantsKept s { t with cycTotal := s.cycTotal, joyInputs := s.joyInputs } ∧
      (t.fault = false →
        t.cycTotal = s.cycTotal + BitVec.ofNat 64 t.stepCycles ∧ t.joyInputs = s.joyInputs.tail) := by
  have hbefore := beforeInstruction_constants s
  obtain ⟨-, ⟨-, rfl⟩ | ⟨-, u, hu, rfl⟩⟩ := step_next h
  · obtain ⟨hkept, htotals⟩ := afterInstruction_constants (u := tick 4 (beforeInstruction s)) hbefore
    exact ⟨hkept, fun _ => htotals⟩
  · have hexec := exec_constants (fetchInstr_constants hbefore) hu
    unfold finishStep
    split
    next hfault =>
      obtain ⟨hcfg, hrom, hboot, henabled, hmapper, -⟩ := hexec
      exact ⟨⟨hcfg, hrom, hboot, henabled, hmapper, rfl, rfl⟩, fun hf => absurd (hfault.symm.trans hf) nofun⟩
    · obtain ⟨hkept, htotals⟩ := afterInstruction_constants hexec
      exact ⟨hkept, fun _ => htotals⟩

/-! ## The cycles -/

theorem exec_stepCycles {i : Instr} {s t : State} (h : exec i s = .next t) :
    ∃ m, (encode i).length + m ≤ 6 ∧ t.stepCycles = s.stepCycles + 4 * m := by
  obtain ⟨n, u, hrun, hcost, hctl⟩ := exec_next h
  obtain ⟨m, hm, hcycles⟩ := hrun.cycles
  refine ⟨m, by omega, ?_⟩
  obtain rfl | ⟨-, rfl⟩ | ⟨-, rfl⟩ | ⟨-, rfl⟩ | ⟨-, rfl⟩ | ⟨op, -, rfl⟩ := hctl <;> exact hcycles

/-- The instruction of a step has run 1 to 6 machine cycles, the fetch of its bytes counted (R162, R545). -/
theorem exec_fetchInstr_stepCycles {s u : State} (h : exec (fetchInstr s).1 (fetchInstr s).2 = .next u) :
    ∃ m, 1 ≤ m ∧ m ≤ 6 ∧ u.stepCycles = s.stepCycles + 4 * m := by
  obtain ⟨m, hm, hcycles⟩ := exec_stepCycles h
  obtain ⟨hlen, -⟩ := lengthOfOpcode_bounds (busRead s.pc s)
  rw [length_encode_fetchInstr] at hm
  have hfetch : (fetchInstr s).2.stepCycles = s.stepCycles + 4 * lengthOfOpcode (busRead s.pc s) := by
    rw [fetchInstr_state]
  exact ⟨lengthOfOpcode (busRead s.pc s) + m, by omega, hm, by omega⟩

/-- The end of a step costs nothing, or the 5 machine cycles of an interrupt entry (R412). -/
theorem afterInstruction_stepCycles (s : State) :
    ∃ k ≤ 5, (afterInstruction s).stepCycles = s.stepCycles + 4 * k := by
  obtain ⟨-, -, -, -, -, hcycles⟩ := afterInstruction_frame s
  rw [hcycles]
  obtain e | e | ⟨i, e⟩ := resolveInterrupts_cases s <;> rw [e]
  · exact ⟨0, Nat.zero_le 5, rfl⟩
  · exact ⟨0, Nat.zero_le 5, rfl⟩
  · exact ⟨5, le_rfl, by rw [enterInterrupt_eq]⟩

theorem step_stepCycles {s t : State} (h : step s = .next t) : ∃ m, 1 ≤ m ∧ m ≤ 11 ∧ t.stepCycles = 4 * m := by
  obtain ⟨hzero, -⟩ := beforeInstruction_parts s
  obtain ⟨-, ⟨-, rfl⟩ | ⟨-, u, hu, rfl⟩⟩ := step_next h
  · obtain ⟨k, hk, hcycles⟩ := afterInstruction_stepCycles (tick 4 (beforeInstruction s))
    rw [tick_stepCycles, hzero] at hcycles
    exact ⟨1 + k, by omega, by omega, by omega⟩
  · obtain ⟨m, hpos, hm, hexec⟩ := exec_fetchInstr_stepCycles hu
    rw [hzero, Nat.zero_add] at hexec
    unfold finishStep
    split
    · exact ⟨m, hpos, by omega, hexec⟩
    · obtain ⟨k, hk, hcycles⟩ := afterInstruction_stepCycles u
      exact ⟨m + k, by omega, by omega, by rw [hcycles, hexec]; omega⟩

end Sys2Proof.Machine

open Sys2Proof.Machine

/-- Settles O59: every phase keeps the constants, and the end of a step moves the two totals on. -/
theorem stepKeepsConstants : Obligations.StepKeepsConstants := by
  intro s t h
  obtain ⟨⟨hcfg, hrom, hboot, henabled, hmapper, -⟩, htotals⟩ := step_constants h
  exact ⟨hcfg, hrom, hboot, henabled, hmapper, htotals⟩

/-- Settles O60: a fetched instruction costs 1 to 6 machine cycles, an entry 5 more. -/
theorem stepCost : Obligations.StepCost := by
  intro s t h
  obtain ⟨m, hpos, hm, hcycles⟩ := step_stepCycles h
  omega

end

section
/-! PROOF. Reading back what a CPU write stored (spec/20_memory.md sections 2 and 6): the RAM regions, while nothing hides them. The stack in RAM follows. -/

namespace Sys2Proof.Machine

theorem bankRead_bankWrite_same (g : BankGeom) (o : Nat) (v : Byte) (b : Bank) (hb : Memory.wf b.buf)
    (hg : g.readOnly = false) (ho : o < g.size) : bankRead g o (bankWrite g o v b) = v := by
  simp only [bankWrite, bankRead, hg, ho, Bool.false_eq_true, if_true, if_false]
  exact Memory.read_write_same _ _ _ hb

theorem busRead_of_open {a : Word} {s : State} (hmask : dmaMasks a s = false) (hlock : lockedOut a s = false) :
    busRead a s = regionByte (regionOf a) s := by
  rw [busRead_eq, hmask, hlock, ← rawRead_eq_regionByte]
  rfl

theorem busWrite_of_open {a : Word} {s : State} (v : Byte) (hmask : dmaMasks a s = false)
    (hlock : lockedOut a s = false) : busWrite a v s = rawWrite a v s := by
  rw [busWrite_eq, hmask, hlock]
  rfl

/-- The address is one of a RAM, in the current bank where it is cartridge RAM (R70, R150). -/
def isRam (a : Word) (s : State) : Prop :=
  match regionOf a with
  | .vram _ | .wram _ | .oam _ | .hram _ => True
  | .cartRam off => cartRamOpen s = true ∧ off < CartRamSize.bankSize s.cfg.cartRamSize
  | _ => False

/-- A write to RAM leaves what hides an address. -/
theorem rawWrite_ram {a : Word} {s : State} (v : Byte) (hram : isRam a s) :
    (rawWrite a v s).dma = s.dma ∧ (rawWrite a v s).ppu = s.ppu := by
  unfold isRam at hram
  unfold rawWrite decodeWrite
  cases hr : regionOf a <;> rw [hr] at hram
  case cartRam o =>
    obtain ⟨hopen, -⟩ := hram
    dsimp only
    rw [mapperWriteRam, if_pos hopen]
    exact ⟨rfl, rfl⟩
  case vram | wram | oam | hram => exact ⟨rfl, rfl⟩
  all_goals exact hram.elim

theorem regionByte_rawWrite_ram {a : Word} {s : State} (v : Byte) (hw : memoriesWf s) (hram : isRam a s) :
    regionByte (regionOf a) (rawWrite a v s) = v := by
  obtain ⟨-, -, hvram, hcart, hwram, hoam, hhram, -⟩ := hw
  have hbounds := regionOf_bounds a
  unfold isRam at hram
  unfold rawWrite decodeWrite
  cases hr : regionOf a <;> simp only [hr] at hram hbounds ⊢
  case vram o => exact bankRead_bankWrite_same _ _ _ _ hvram rfl hbounds.2
  case cartRam o =>
    obtain ⟨hopen, ho⟩ := hram
    rw [mapperWriteRam, if_pos hopen]
    exact (if_pos hopen).trans (bankRead_bankWrite_same _ _ _ _ hcart rfl ho)
  case wram o => exact bankRead_bankWrite_same _ _ _ _ hwram rfl hbounds.2
  case oam o => exact Memory.read_write_same _ _ _ hoam
  case hram o => exact Memory.read_write_same _ _ _ hhram

/-- RAM that the CPU can reach reads back as written (R72, R78, R81). -/
theorem busRead_busWrite_ram {a : Word} {s : State} (v : Byte) (hw : memoriesWf s) (hram : isRam a s)
    (hmask : dmaMasks a s = false) (hlock : lockedOut a s = false) : busRead a (busWrite a v s) = v := by
  obtain ⟨hdma, hppu⟩ := rawWrite_ram v hram
  rw [busWrite_of_open v hmask hlock, busRead_of_open, regionByte_rawWrite_ram v hw hram]
  · rw [dmaMasks, hdma]
    exact hmask
  · unfold lockedOut vramLocked oamLocked at hlock ⊢
    rw [hppu]
    exact hlock

/-! ## Work RAM and high RAM -/

/-- Neither a lockout nor the mask hides plain RAM (R72, R73). -/
theorem open_of_plainRam {a : Word} {s : State} (h : plainRam a s = true) :
    isRam a s ∧ dmaMasks a s = false ∧ lockedOut a s = false := by
  have hbounds := regionOf_bounds a
  unfold plainRam at h
  unfold isRam lockedOut
  cases hr : regionOf a <;> simp only [hr] at h hbounds ⊢
  case wram o => exact ⟨trivial, (Bool.not_eq_true' _).mp h, trivial⟩
  case hram o => exact ⟨trivial, by simp [dmaMasks, hbounds.1]; omega, trivial⟩
  all_goals exact absurd h Bool.false_ne_true

theorem busRead_plainRam {a : Word} {s : State} (h : plainRam a s = true) : busRead a s = rawRead a s := by
  obtain ⟨-, hmask, hlock⟩ := open_of_plainRam h
  rw [busRead_of_open hmask hlock, rawRead_eq_regionByte]

theorem busRead_busWrite_plainRam {a : Word} {s : State} (v : Byte) (hw : memoriesWf s) (h : plainRam a s = true) :
    busRead a (busWrite a v s) = v := by
  obtain ⟨hram, hmask, hlock⟩ := open_of_plainRam h
  exact busRead_busWrite_ram v hw hram hmask hlock

theorem busWrite_plainRam {a : Word} (b : Word) {s : State} (v : Byte) (ha : plainRam a s = true) :
    plainRam b (busWrite a v s) = plainRam b s := by
  obtain ⟨hram, hmask, hlock⟩ := open_of_plainRam ha
  unfold plainRam dmaMasks
  rw [busWrite_of_open v hmask hlock, (rawWrite_ram v hram).1]

/-- Two bytes of plain RAM at successive addresses are two bytes. -/
theorem writeTouches_succ {a : Word} {s : State} (h : plainRam a s = true) : writeTouches a (a + 1) = false := by
  have hbounds := regionOf_bounds a
  have hbounds' := regionOf_bounds (a + 1)
  have hsucc : (a + 1).toNat = (a.toNat + 1) % 65536 := BitVec.toNat_add a 1
  unfold plainRam at h
  unfold writeTouches
  cases hr : regionOf a <;> simp only [hr, beq_eq_false_iff_ne] at h hbounds ⊢
  case wram o =>
    intro hr'
    rw [hr'] at hbounds'
    dsimp only at hbounds'
    omega
  case hram o =>
    intro hr'
    rw [hr'] at hbounds'
    dsimp only at hbounds'
    omega
  all_goals exact absurd h Bool.false_ne_true

/-! ## PUSH and POP -/

/-- The two writes of a push into plain RAM, read back. -/
theorem busRead_pushWrites {s : State} (v : Word) (hw : memoriesWf s) (h1 : plainRam (s.sp - 1) s = true)
    (h2 : plainRam (s.sp - 2) s = true) :
    busRead (s.sp - 2) (pushWrites v s) = loByte v ∧ busRead (s.sp - 1) (pushWrites v s) = hiByte v := by
  have hw' := busWrite_memoriesWf (s.sp - 1) (hiByte v) s hw
  have h2' : plainRam (s.sp - 2) (busWrite (s.sp - 1) (hiByte v) s) = true := (busWrite_plainRam _ _ h1).trans h2
  have h1' : plainRam (s.sp - 1) (busWrite (s.sp - 1) (hiByte v) s) = true := (busWrite_plainRam _ _ h1).trans h1
  have h1'' : plainRam (s.sp - 1) (pushWrites v s) = true := (busWrite_plainRam _ _ h2').trans h1'
  have hother : writeTouches (s.sp - 2) (s.sp - 1) = false := by
    have hsucc : s.sp - 2 + 1 = s.sp - 1 := by bv_omega
    exact hsucc ▸ writeTouches_succ h2
  refine ⟨busRead_busWrite_plainRam (loByte v) hw' h2', ?_⟩
  calc busRead (s.sp - 1) (pushWrites v s)
      = rawRead (s.sp - 1) (pushWrites v s) := busRead_plainRam h1''
    _ = rawRead (s.sp - 1) (busWrite (s.sp - 1) (hiByte v) s) := rawRead_busWrite_other _ _ _ _ hw' hother
    _ = busRead (s.sp - 1) (busWrite (s.sp - 1) (hiByte v) s) := (busRead_plainRam h1').symm
    _ = hiByte v := busRead_busWrite_plainRam (hiByte v) hw h1

/-- The bytes of a pair written back to it change nothing, F's low nibble being 0 (R22, R236). -/
theorem setStackPair_readStackReg (rr : StackReg) {s : State} (hf : flagNibbleClear s) :
    setStackPair rr (loByte (readStackReg rr s)) (hiByte (readStackReg rr s)) s.regs = s.regs := by
  cases rr with
  | af =>
    have hmask : s.regs.f &&& 0xF0 = s.regs.f := by
      have hall : ∀ f : Byte, f &&& 0x0F = 0 → f &&& 0xF0 = f := by decide
      exact hall _ hf
    simp only [setStackPair, readStackReg, loByte_joinBytes, hiByte_joinBytes, readF, hmask]
  | bc | de | hl => simp only [setStackPair, readStackReg, readReg16, loByte_joinBytes, hiByte_joinBytes]

theorem pushReg_eq (rr : StackReg) (s : State) :
    pushReg rr s =
      { pushWrites (readStackReg rr s) s with sp := s.sp - 2, stepCycles := s.stepCycles + 12 } := by
  rw [pushReg, push16_tick, push16_writes]
  rfl

theorem exec_pop (rr : StackReg) (s : State) : exec (Forms.pop rr) s = .next (popReg rr s) := by
  cases rr <;> rfl

theorem popReg_pushReg (rr : StackReg) {s : State} (hw : memoriesWf s) (hf : flagNibbleClear s)
    (h1 : plainRam (s.sp - 1) s = true) (h2 : plainRam (s.sp - 2) s = true) :
    (popReg rr (pushReg rr s)).regs = s.regs ∧ (popReg rr (pushReg rr s)).sp = s.sp := by
  obtain ⟨hlo, hhi⟩ := busRead_pushWrites (readStackReg rr s) hw h1 h2
  have hread (a : Word) : busRead a (pushReg rr s) = busRead a (pushWrites (readStackReg rr s) s) := by
    rw [pushReg_eq]
    rfl
  have hsp : (pushReg rr s).sp = s.sp - 2 := by rw [pushReg_eq]
  have hregs : (pushReg rr s).regs = s.regs := by
    rw [pushReg_eq]
    exact (busWrite_regs _ _ _).trans (busWrite_regs _ _ _)
  have hsucc : s.sp - 2 + 1 = s.sp - 1 := by bv_omega
  rw [popReg_eq, writeStackReg_regs, writeStackReg_sp, hread, hread, hsp, hsucc, hlo, hhi, hregs]
  exact ⟨setStackPair_readStackReg rr hf, by bv_omega⟩

end Sys2Proof.Machine

open Sys2Proof.Machine

/-- Settles O17: the pop reads the two bytes the push wrote. -/
theorem pushThenPop : Obligations.PushThenPop := by
  intro rr s hw hf h1 h2
  obtain ⟨hregs, hsp⟩ := popReg_pushReg rr hw hf h1 h2
  exact ⟨_, _, exec_push rr s, exec_pop rr _, hregs, hsp⟩

/-- Settles O40: a CPU write reaches none of the CPU, leaves what it does not touch, and RAM in reach holds the byte. -/
theorem busWriteEffect : Obligations.BusWriteEffect := by
  intro a v s hw
  refine ⟨by simp [cpuKept], busWrite_stepCycles a v s, fun x hx => rawRead_busWrite_other a x v s hw (hx a (by simp)), ?_⟩
  rintro (hplain | ⟨hmask, hregion⟩)
  · exact busRead_busWrite_plainRam v hw hplain
  · have hopen : isRam a s ∧ lockedOut a s = false := by
      unfold isRam lockedOut cartRamOpen
      cases hr : regionOf a <;> rw [hr] at hregion
      case vram | oam => exact ⟨trivial, hregion⟩
      case cartRam off =>
        obtain ⟨henabled, hsize, hoff⟩ := hregion
        exact ⟨⟨Bool.and_eq_true_iff.mpr ⟨henabled, bne_iff_ne.mpr hsize⟩, hoff⟩, rfl⟩
      all_goals exact hregion.elim
    exact busRead_busWrite_ram v hw hopen.1 hmask hopen.2

end

section
/-! PROOF. The returns (spec/45_control_transfer.md R357 to R359): one operation, `returnSub`, that pops PC. Then the addition of two decimal digits each (spec/42_alu8.md R253, R288). -/

namespace Sys2Proof.Machine

theorem returnSub_eq (s : State) :
    returnSub s = { s with pc := poppedWord s, sp := s.sp + 2, stepCycles := s.stepCycles + 12 } := by
  have hsp : s.sp + 1 + 1 = s.sp + 2 := add_assoc s.sp 1 1
  rw [returnSub, pop16_eq, hsp]
  rfl

theorem exec_ret (s : State) :
    exec .ret s = .next { s with pc := poppedWord s, sp := s.sp + 2, stepCycles := s.stepCycles + 12 } :=
  congrArg Host.Outcome.next (returnSub_eq s)

theorem exec_reti (s : State) :
    exec .reti s =
      .next { s with pc := poppedWord s, sp := s.sp + 2, stepCycles := s.stepCycles + 12, ime := true } := by
  change Host.Outcome.next { returnSub s with ime := true } = _
  rw [returnSub_eq]

theorem exec_retIf (cc : Cond) (s : State) :
    exec (Forms.retIf cc) s = .next (if condHolds cc s then returnSub (tick 4 s) else tick 4 s) := by
  cases cc <;> rfl

theorem encodes_retIf (cc : Cond) : encodes [0xC0 + 8 * Forms.condCode cc] (Forms.retIf cc) := by
  cases cc <;> exact encodes_of_encode_eq rfl rfl nofun

/-! ## Decimal addition -/

/-- Two digits `t` and `d` with a carry out of `t`, as the packed byte and 0xA0 for the carry. -/
theorem bcd_of_digits {t d : Nat} (ht : t < 20) (hd : d < 10) :
    16 * ((10 * t + d) % 100 / 10) + (10 * t + d) % 10 + (if 10 * t + d ≥ 100 then 160 else 0) = 16 * t + d := by
  have hones : (10 * t + d) % 10 = d := by rw [Nat.mul_add_mod, Nat.mod_eq_of_lt hd]
  have htens : (10 * t + d) % 100 / 10 = t % 10 := by
    rw [show 100 = 10 * 10 from rfl, Nat.mod_mul_right_div_self, Nat.mul_add_div (by decide), Nat.div_eq_of_lt hd,
      Nat.add_zero]
  rw [hones, htens]
  obtain h | h := Nat.lt_or_ge t 10
  · rw [Nat.mod_eq_of_lt h, if_neg (by omega), Nat.add_zero]
  · rw [Nat.mod_eq_sub_mod h, Nat.mod_eq_of_lt (by omega), if_pos (by omega)]
    omega

/-- A digit sum `u` past 9 carries into `t`: 6 more in the packed byte. -/
theorem bcd_of_sums {t u : Nat} (ht : t ≤ 18) (hu : u ≤ 18) :
    16 * ((10 * t + u) % 100 / 10) + (10 * t + u) % 10 + (if 10 * t + u ≥ 100 then 160 else 0) =
      16 * t + u + (if u > 9 then 6 else 0) := by
  obtain h | h := Nat.lt_or_ge u 10
  · rw [if_neg (Nat.not_lt.mpr (Nat.le_of_lt_succ h)), Nat.add_zero]
    exact bcd_of_digits (Nat.lt_of_le_of_lt ht (by decide)) h
  · have hcarry : 10 * t + u = 10 * (t + 1) + (u - 10) := by omega
    rw [if_pos (Nat.lt_of_succ_le h), hcarry, bcd_of_digits (by omega) (by omega)]
    omega

theorem daaResult_add (a : Byte) (low high : Bool) :
    daaResult a false (daaCorrection low high) =
      a + BitVec.ofNat 8 (if low then 6 else 0) + BitVec.ofNat 8 (if high then 0x60 else 0) := by
  rw [daaResult, if_neg Bool.false_ne_true, BitVec.ofInt_add, ofInt_toNat, daaCorrection, BitVec.ofInt_add,
    ← BitVec.add_assoc]
  cases low <;> cases high <;> rfl

/-- The sum of two packed-BCD bytes needs 6 more where the ones' sum `u` passed 9, 0x60 more where the whole sum
passed 99. -/
theorem daa_bcd_sum {t u : Nat} (ht : t ≤ 18) (hu : u ≤ 18) :
    daaLow (BitVec.ofNat 8 (16 * t + u)) false (decide (u > 0xF)) = decide (u > 9) ∧
      daaHigh (BitVec.ofNat 8 (16 * t + u)) false (decide (16 * t + u > 0xFF)) = decide (10 * t + u ≥ 100) ∧
      daaResult (BitVec.ofNat 8 (16 * t + u)) false (daaCorrection (decide (u > 9)) (decide (10 * t + u ≥ 100))) =
        BitVec.ofNat 8 (16 * ((10 * t + u) % 100 / 10) + (10 * t + u) % 10) := by
  refine ⟨?_, ?_, ?_⟩
  · rw [daaLow, if_neg Bool.false_ne_true, BitVec.toNat_ofNat, ← Bool.decide_or, decide_eq_decide]
    omega
  · rw [daaHigh, if_neg Bool.false_ne_true, BitVec.toNat_ofNat, ← Bool.decide_or, decide_eq_decide]
    omega
  · have hdigits := bcd_of_sums ht hu
    generalize 16 * ((10 * t + u) % 100 / 10) + (10 * t + u) % 10 = digits at hdigits ⊢
    rw [daaResult_add, ← BitVec.ofNat_add, ← BitVec.ofNat_add]
    simp only [decide_eq_true_eq]
    rw [← hdigits, Nat.add_assoc, BitVec.ofNat_add]
    split <;> exact BitVec.add_zero _
/-- What ADD leaves in A and the flags that DAA reads. -/
theorem add_A_B_parts {s : State} {r : Byte} {z n h c : Bool}
    (hadd : add8 s.regs.a s.regs.b false = (r, allFlags z n h c)) :
    ∃ t, exec .add_A_B s = .next t ∧ t.regs.a = r ∧ flagN t = n ∧ flagH t = h ∧ flagC t = c := by
  have hexec : exec .add_A_B s =
    .next (setFlags (add8 s.regs.a s.regs.b false).2 (writeReg8 .a (add8 s.regs.a s.regs.b false).1 s)) := rfl
  rw [hadd] at hexec
  exact ⟨_, hexec, rfl, flagN_setFlags _ _, flagH_setFlags _ _, flagC_setFlags _ _⟩

/-- What DAA leaves in A and C. -/
theorem daa_parts (t : State) :
    ∃ u, exec .daa t = .next u ∧
      u.regs.a = daaResult t.regs.a (flagN t)
        (daaCorrection (daaLow t.regs.a (flagN t) (flagH t)) (daaHigh t.regs.a (flagN t) (flagC t))) ∧
      flagC u = daaHigh t.regs.a (flagN t) (flagC t) := by
  have hexec := exec_daa t
  rw [daa8_eq] at hexec
  exact ⟨_, hexec, rfl, flagC_setFlags _ _⟩

end Sys2Proof.Machine

open Sys2Proof.Machine

/-- Settles O34: RET and RETI are `returnSub`, a conditional return is `returnSub` or nothing after 4 cycles. -/
theorem returns : Obligations.Returns := by
  refine ⟨⟨encodes_of_encode_eq rfl rfl nofun, encodes_of_encode_eq rfl rfl nofun, encodes_retIf⟩,
    fun s => ⟨?_, ?_, fun cc => ?_⟩⟩
  · exact ⟨_, exec_ret s, ⟨rfl, rfl⟩, rfl, fun _ => rfl, rfl⟩
  · exact ⟨_, exec_reti s, ⟨rfl, rfl⟩, rfl, fun _ => rfl, rfl⟩
  · obtain ⟨t, hexec, htaken, hnot⟩ := branches_of_exec (exec_retIf cc s)
    rw [returnSub_eq] at htaken
    refine ⟨t, hexec, ?_⟩
    cases hcc : taken cc s with
    | true =>
      rw [htaken hcc]
      exact ⟨rfl, fun _ => rfl, fun _ => ⟨⟨rfl, rfl⟩, rfl⟩, nofun⟩
    | false =>
      rw [hnot hcc]
      exact ⟨rfl, fun _ => rfl, nofun, fun _ => ⟨rfl, rfl, rfl⟩⟩

/-- Settles O23: after ADD the carries are those of the two digits, and DAA adds the correction they ask for. -/
theorem decimalAdjustAfterAddition : Obligations.DecimalAdjustAfterAddition := by
  intro x1 x0 y1 y0 s ha hb sum
  obtain ⟨hlow, hhigh, hresult⟩ := daa_bcd_sum (t := x1 + y1) (u := x0 + y0) (by omega) (by omega)
  have hbyte : 16 * x1.val + x0.val + (16 * y1.val + y0.val) = 16 * (x1 + y1) + (x0 + y0) := by omega
  have hsum : 10 * (x1.val + y1.val) + (x0 + y0) = sum := by omega
  rw [hsum] at hhigh hresult
  have hx : s.regs.a.toNat = 16 * x1 + x0 := by rw [ha, BitVec.toNat_ofNat]; omega
  have hy : s.regs.b.toNat = 16 * y1 + y0 := by rw [hb, BitVec.toNat_ofNat]; omega
  have hhalf : (16 * x1.val + x0) % 16 + (16 * y1.val + y0) % 16 = x0 + y0 := by omega
  have hadd := add8_eq s.regs.a s.regs.b false
  rw [hx, hy, hhalf, Bool.toNat_false, Nat.add_zero, Nat.add_zero, hbyte] at hadd
  obtain ⟨t, hexec, hr, hn, hh, hc⟩ := add_A_B_parts hadd
  obtain ⟨u, hdaa, hu, hcarry⟩ := daa_parts t
  rw [hr, hn, hh, hc, hlow, hhigh] at hu
  rw [hr, hn, hc, hhigh] at hcarry
  exact ⟨t, u, hexec, hdaa, hu.trans hresult, hcarry⟩

end

section
/-! PROOF. The addresses no storage answers, and the memory-mapped registers (spec/20_memory.md R83 to R85, spec/10_state.md R33 to R44): an access of a register's address reaches the register alone, and neither the mask nor a lockout hides it. -/

namespace Sys2Proof.Machine

/-! ## Accesses by region -/

/-- The DMA mask hides nothing from 0xFF00 on (R72). -/
theorem dmaMasks_of_high {a : Word} (s : State) (h : 0xFF00 ≤ a.toNat) : dmaMasks a s = false := by
  rw [dmaMasks, decide_eq_false (Nat.not_lt.mpr h), Bool.and_false]

theorem busRead_io {a : Word} {r : IoReg} (h : regionOf a = .io r) (s : State) : busRead a s = readIo r s := by
  rw [busRead, dmaMasks_of_high s (regionOf_io a r h).1, if_neg Bool.false_ne_true, decodeRead, h]

theorem busWrite_io {a : Word} {r : IoReg} (h : regionOf a = .io r) (v : Byte) (s : State) :
    busWrite a v s = writeIo r v s := by
  unfold busWrite decodeWrite
  rw [dmaMasks_of_high s (regionOf_io a r h).1, if_neg Bool.false_ne_true, h]

theorem busRead_notCovered {a : Word} (h : regionOf a = .notCovered) (s : State) : busRead a s = 0xFF := by
  rw [busRead_eq, rawRead_eq_regionByte, h]
  exact ite_self _

theorem busWrite_notCovered {a : Word} (h : regionOf a = .notCovered) (v : Byte) (s : State) : busWrite a v s = s := by
  have hraw : rawWrite a v s = s := by
    unfold rawWrite decodeWrite
    rw [h]
  rw [busWrite_eq, hraw, ite_self]

/-- Nothing but the region and the mask tells two addresses apart. -/
theorem busRead_congr {a b : Word} {s : State} (hr : regionOf a = regionOf b) (hm : dmaMasks a s = dmaMasks b s) :
    busRead a s = busRead b s := by
  rw [busRead, busRead, decodeRead, decodeRead, hr, hm]

theorem busWrite_congr {a b : Word} {s : State} (v : Byte) (hr : regionOf a = regionOf b)
    (hm : dmaMasks a s = dmaMasks b s) : busWrite a v s = busWrite b v s := by
  unfold busWrite decodeWrite
  rw [hr, hm]

/-! ## The address map -/

/-- The address of a register (R33). -/
def ioAddr (r : IoReg) : Word := BitVec.ofNat 16 (0xFF00 + ioOffset r)

theorem regionOf_ioAddr (r : IoReg) : regionOf (ioAddr r) = .io r := by
  cases r <;> rfl

/-- The addresses of the register map (R33). -/
def ioAddrs : List Nat :=
  [0xFF00, 0xFF04, 0xFF05, 0xFF06, 0xFF07, 0xFF0F, 0xFF40, 0xFF41, 0xFF42, 0xFF43, 0xFF44, 0xFF45,
    0xFF46, 0xFF47, 0xFF48, 0xFF49, 0xFF4A, 0xFF4B, 0xFF50]

theorem ioOffset_mem_ioAddrs (r : IoReg) : 0xFF00 + ioOffset r ∈ ioAddrs := by
  cases r <;> decide

theorem regionOf_notCovered {a : Word} (hlow : 0xFEA0 ≤ a.toNat) (hhigh : a.toNat < 0xFF80)
    (hio : 0xFF00 ≤ a.toNat → a.toNat ∉ ioAddrs) : regionOf a = .notCovered := by
  have hbounds := regionOf_bounds a
  cases hr : regionOf a <;> rw [hr] at hbounds <;> dsimp only at hbounds
  case io r =>
    obtain ⟨hge, -, hreg⟩ := hbounds
    have haddr : a.toNat = 0xFF00 + ioOffset r := by have := ioRegAt_val _ _ hreg; omega
    exact absurd (haddr ▸ ioOffset_mem_ioAddrs r) (hio hge)
  case ie => exact absurd (congrArg BitVec.toNat hbounds) (Nat.ne_of_lt (hhigh.trans (by decide)))
  all_goals omega

theorem regionOf_wram {k : Nat} (hk : k < 0x2000) : regionOf (BitVec.ofNat 16 (0xC000 + k)) = .wram k := by
  have hn : (BitVec.ofNat 16 (0xC000 + k)).toNat = 0xC000 + k := by rw [BitVec.toNat_ofNat]; omega
  dsimp only [regionOf]
  rw [hn, if_neg (by omega), if_neg (by omega), if_neg (by omega), if_pos (by omega), Nat.add_sub_cancel_left]

theorem regionOf_echo {k : Nat} (hk : k < 0x1E00) : regionOf (BitVec.ofNat 16 (0xE000 + k)) = .wram k := by
  have hn : (BitVec.ofNat 16 (0xE000 + k)).toNat = 0xE000 + k := by rw [BitVec.toNat_ofNat]; omega
  dsimp only [regionOf]
  rw [hn, if_neg (by omega), if_neg (by omega), if_neg (by omega), if_neg (by omega), if_pos (by omega),
    Nat.add_sub_cancel_left]

/-- DMA masks work RAM and its echo alike (R72, R80). -/
theorem dmaMasks_echo {k : Nat} (hk : k < 0x1E00) (s : State) :
    dmaMasks (BitVec.ofNat 16 (0xE000 + k)) s = dmaMasks (BitVec.ofNat 16 (0xC000 + k)) s := by
  have hecho : (BitVec.ofNat 16 (0xE000 + k)).toNat < 0xFF00 := by rw [BitVec.toNat_ofNat]; omega
  have hwram : (BitVec.ofNat 16 (0xC000 + k)).toNat < 0xFF00 := by rw [BitVec.toNat_ofNat]; omega
  rw [dmaMasks, dmaMasks, decide_eq_true hecho, decide_eq_true hwram]

/-! ## The fields of P1 and STAT (R34, R40) -/

/-- The byte that holds a field from bit `k` on and 0 elsewhere. -/
def byteField {w : Nat} (k : Nat) (x : BitVec w) : Byte := x.setWidth 8 <<< k

theorem statByte_eq (p : Ppu) :
    statByte p =
      0x80 ||| byteField 3 p.statEn ||| (if p.ly == p.lyc then 4 else 0) ||| byteField 0 (modeNumber p.mode) := by
  unfold statByte
  generalize p.statEn = en
  generalize (p.ly == p.lyc) = c
  generalize modeNumber p.mode = m
  revert en c m
  decide

theorem readIo_p1_eq (s : State) :
    readIo .p1 s = 0xC0 ||| byteField 4 s.joySelect ||| byteField 0 (p1Keys s.joySelect (joyInput s).held) := by
  have hfields : ∀ (sel : BitVec 2) (keys : BitVec 4),
      (0b11#2 ++ sel ++ keys : Byte) = 0xC0 ||| byteField 4 sel ||| byteField 0 keys := by
    decide
  exact hfields _ _

theorem byteField_statEn (v : Byte) : byteField 3 (v.extractLsb' 3 4) = v &&& 0x78 := by
  unfold byteField
  ext i hi
  interval_cases i <;> simp

theorem byteField_joySelect (v : Byte) : byteField 4 (v.extractLsb' 4 2) = v &&& 0x30 := by
  unfold byteField
  ext i hi
  interval_cases i <;> simp

/-- The keys of one group, a held key at 0 (R34). -/
theorem byteField_keys (held : Byte) :
    byteField 0 (~~~(held.extractLsb' 0 4)) = ~~~held &&& 0x0F ∧
      byteField 0 (~~~(held.extractLsb' 4 4)) = ~~~(held >>> 4) &&& 0x0F := by
  unfold byteField
  constructor <;> ext i hi <;> interval_cases i <;> simp

/-- The keys of one group, a held key at 0; 1s where its select bit is 1 (R34). -/
def keyGroup (off : Bool) (keys : Byte) : Byte := if off then 0x0F else ~~~keys &&& 0x0F

/-- The low nibble of P1 after a write of `v`. -/
def selectedKeys (v held : Byte) : Byte := keyGroup (v.getLsbD 4) held &&& keyGroup (v.getLsbD 5) (held >>> 4)

theorem byteField_p1Keys (v held : Byte) : byteField 0 (p1Keys (v.extractLsb' 4 2) held) = selectedKeys v held := by
  have h4 : (v.extractLsb' 4 2).getLsbD 0 = v.getLsbD 4 := by simp
  have h5 : (v.extractLsb' 4 2).getLsbD 1 = v.getLsbD 5 := by simp
  have hand (x y : BitVec 4) : byteField 0 (x &&& y) = byteField 0 x &&& byteField 0 y := by simp [byteField]
  have hfull : byteField 0 (0xF : BitVec 4) = 0x0F := rfl
  obtain ⟨hlow, hhigh⟩ := byteField_keys held
  dsimp only [p1Keys]
  rw [hand, h4, h5, apply_ite (byteField 0), apply_ite (byteField 0), hlow, hhigh, hfull]
  rfl

/-! ## The registers, written and read -/

/-- The registers that hold the written byte (R33). -/
def storageRegs : List IoReg :=
  [.tima, .tma, .tac, .lcdc, .scy, .scx, .lyc, .dma, .bgp, .obp0, .obp1, .wy, .wx]

theorem writeLcdc_lcdc (v : Byte) (p : Ppu) : (writeLcdc v p).lcdc = v := by
  dsimp only [writeLcdc]
  split
  · rfl
  · split <;> rfl

theorem readIo_writeIo_storage {r : IoReg} (h : r ∈ storageRegs) (v : Byte) (s : State) : readIo r (writeIo r v s) = v := by
  cases r
  case lcdc => exact writeLcdc_lcdc v s.ppu
  case p1 | div | ifr | stat | ly | boot => exact absurd h (by decide)
  all_goals rfl

theorem readIo_stat_write (v : Byte) (s : State) :
    readIo .stat (writeIo .stat v s) =
      0x80 ||| (v &&& 0x78) ||| (if s.ppu.ly = s.ppu.lyc then 4 else 0) ||| byteField 0 (modeNumber s.ppu.mode) := by
  refine (statByte_eq (writeIo .stat v s).ppu).trans ?_
  rw [← byteField_statEn]
  simp only [writeIo, beq_iff_eq]

theorem readIo_p1_write (v : Byte) (s : State) :
    readIo .p1 (writeIo .p1 v s) = 0xC0 ||| (v &&& 0x30) ||| selectedKeys v (joyInput s).held := by
  rw [← byteField_joySelect, ← byteField_p1Keys]
  exact readIo_p1_eq _

theorem div_read (d : BitVec 16) : (d.extractLsb' 8 8).toNat = d.toNat / 256 := by
  have hd := d.isLt
  rw [BitVec.extractLsb'_toNat, Nat.shiftRight_eq_div_pow]
  omega

theorem ifReg_read (v : Byte) : (0b111#3 ++ v.extractLsb' 0 5 : Byte) = 0xE0 ||| (v &&& 0x1F) := by
  have hfields : ∀ n : BitVec 5, (0b111#3 ++ n : Byte) = 0xE0 ||| n.setWidth 8 := by decide
  rw [hfields]
  congr 1
  ext i hi
  interval_cases i <;> simp

theorem ie_read (v : Byte) (s : State) : busRead 0xFFFF (busWrite 0xFFFF v s) = v &&& 0x1F := by
  have hmask (u : State) : dmaMasks 0xFFFF u = false := dmaMasks_of_high u (by decide)
  have hwrite : busWrite 0xFFFF v s = { s with ie := v.extractLsb' 0 5 } := by
    unfold busWrite
    rw [hmask]
    rfl
  have hfield : (v.extractLsb' 0 5).zeroExtend 8 = v &&& 0x1F := by
    ext i hi
    interval_cases i <;> simp
  rw [hwrite, busRead, hmask]
  exact hfield

theorem writeIo_boot (v : Byte) (s : State) : (writeIo .boot v s).bootEnabled = (s.bootEnabled && decide (v = 0)) := by
  dsimp only [writeIo]
  split
  next hv => rw [decide_eq_true hv, Bool.and_true]
  next hv => rw [decide_eq_false hv, Bool.and_false]

end Sys2Proof.Machine

open Sys2Proof.Machine

/-- Settles O42: neither kind of address has storage, and an echo address has its work RAM's region. -/
theorem uncoveredAndEchoAddresses : Obligations.UncoveredAndEchoAddresses := by
  intro a v s
  refine ⟨fun h => ?_, fun k hk => ?_⟩
  · have hr : regionOf a = .notCovered := by
      rcases h with ⟨hlow, hhigh⟩ | ⟨hlow, hhigh, hnot⟩
      · exact regionOf_notCovered hlow (by omega) (by omega)
      · exact regionOf_notCovered (by omega) hhigh fun _ => hnot
    exact ⟨busRead_notCovered hr s, busWrite_notCovered hr v s, by rw [rawRead_eq_regionByte, hr]; rfl⟩
  · have hr := (regionOf_echo hk).trans (regionOf_wram (by omega)).symm
    exact ⟨busRead_congr hr (dmaMasks_echo hk s), busWrite_congr v hr (dmaMasks_echo hk s)⟩

/-- Settles O43: an access of a register's address is one of the register, and IE is read by its five bits. -/
theorem registerReadBack : Obligations.RegisterReadBack := by
  intro v s held
  refine ⟨fun a ha => ?_, ?_, ?_, ?_, ?_, ?_, ?_, ?_, ?_, ?_, ?_, ?_⟩
  · obtain ⟨r, hr, rfl⟩ : ∃ r ∈ storageRegs, ioAddr r = a := List.mem_map.mp ha
    rw [busWrite_io (regionOf_ioAddr r), busRead_io (regionOf_ioAddr r), readIo_writeIo_storage hr]
  · rw [busWrite_io (r := .ifr) rfl, busRead_io (r := .ifr) rfl]
    exact ifReg_read v
  · exact ie_read v s
  · rw [busWrite_io (r := .stat) rfl, busRead_io (r := .stat) rfl, readIo_stat_write]
    cases s.ppu.mode <;> rfl
  · rw [busWrite_io (r := .div) rfl]
    rfl
  · rw [busRead_io (r := .div) rfl]
    exact div_read _
  · exact busWrite_io (r := .ly) rfl v s
  · exact busRead_io (r := .ly) rfl s
  · rw [busWrite_io (r := .dma) rfl]
    rfl
  · exact busRead_io (r := .boot) rfl s
  · rw [busWrite_io (r := .boot) rfl]
    exact writeIo_boot v s
  · rw [busWrite_io (r := .p1) rfl, busRead_io (r := .p1) rfl, readIo_p1_write, joyInput_held]
    rfl

end

section
/-! PROOF. The cartridge (spec/21_cartridge_mapper.md): the mapper's commands by quarter of the ROM area, and what its two areas read. Then the PPU switched on and off through LCDC (spec/61_ppu.md R447, R448). -/

namespace Sys2Proof.Machine

/-! ## The fields of a command (R123 to R145) -/

/-- A command's field is the low bits of the byte. -/
theorem lowField_eq {k m : Nat} (hm : 2 ^ k = m) (v : Byte) : v.extractLsb' 0 k = BitVec.ofNat k (v.toNat % m) := by
  apply BitVec.eq_of_toNat_eq
  rw [BitVec.extractLsb'_toNat, BitVec.toNat_ofNat, Nat.shiftRight_zero, hm, Nat.mod_mod]

/-- A bank number 0 is taken as 1 (R124, R142). -/
theorem zeroRemap_lowField {k m : Nat} (hm : 2 ^ k = m) (v : Byte) :
    zeroRemap (v.extractLsb' 0 k) = BitVec.ofNat k (if v.toNat % m = 0 then 1 else v.toNat % m) := by
  have hzero : BitVec.ofNat k (v.toNat % m) = 0 ↔ v.toNat % m = 0 := by
    rw [BitVec.toNat_eq, BitVec.toNat_ofNat, hm, Nat.mod_mod, BitVec.ofNat_eq_ofNat, BitVec.toNat_ofNat, Nat.zero_mod]
  rw [zeroRemap, lowField_eq hm, if_congr hzero rfl rfl, apply_ite (BitVec.ofNat k)]
  rfl

theorem ramEnableWrite_eq (p : RamEnPolicy) (old : Bool) (v : Byte) :
    ramEnableWrite p old v =
      match p with
      | .setClear => decide (v.toNat % 16 = 0xA)
      | .toggle => if v.toNat % 16 = 0xA then !old else old := by
  have hfield : v.extractLsb' 0 4 = 0xA#4 ↔ v.toNat % 16 = 0xA := by
    rw [lowField_eq (m := 16) rfl, BitVec.toNat_eq, BitVec.toNat_ofNat, Nat.mod_mod]
    rfl
  cases p with
  | setClear => exact (beq_eq_decide _ _).trans (decide_eq_decide.mpr hfield)
  | toggle => exact if_congr hfield rfl rfl

theorem getLsbD_zero_eq (v : Byte) : v.getLsbD 0 = decide (v.toNat % 2 = 1) := by
  rw [BitVec.getLsbD, Nat.testBit_zero]

/-! ## Commands (R120) -/

theorem regionOf_rom {a : Word} (h : a.toNat < 0x8000) : regionOf a = .rom a.toNat := if_pos h

/-- A write of the ROM area is a command, whether or not the boot ROM lies over it (R77). -/
theorem busWrite_rom {a : Word} {s : State} (v : Byte) (hdma : s.dma.active = false) (ha : a.toNat < 0x8000) :
    busWrite a v s = mapperWriteRom a.toNat v s := by
  unfold busWrite decodeWrite
  rw [dmaMasks, hdma, Bool.false_and, if_neg Bool.false_ne_true, regionOf_rom ha]

/-- The two banks from the registers of MBC1 (R126). -/
theorem mbc1UpdateBanks_eq (r : Mbc1) (s : State) :
    mbc1UpdateBanks r s =
      { s with
        mapper := .mbc1 r
        rom := { s.rom with
          current :=
            (if r.bankingMode then r.romBank.toNat else 32 * r.secBank.toNat + r.romBank.toNat) % s.cfg.romBankCount }
        cartRam :=
          if s.cfg.cartRamSize = .none then s.cartRam
          else { s.cartRam with
            current := (if r.bankingMode then r.secBank.toNat else 0) % CartRamSize.bankCount s.cfg.cartRamSize } } := by
  rw [mbc1UpdateBanks, Nat.mul_comm]
  rfl

/-! ## Reads (R76, R110, R150) -/

theorem rawRead_rom {a : Word} (h : a.toNat < 0x8000) (s : State) : rawRead a s = readRomArea a.toNat s := by
  rw [rawRead_eq_regionByte, regionOf_rom h]
  rfl

theorem readRomArea_overlay {n : Nat} {s : State} (hn : n < 0x100) (hboot : s.bootEnabled = true) :
    readRomArea n s = Memory.read s.bootRom n := by
  unfold readRomArea
  rw [hboot, decide_eq_true hn]
  rfl

theorem readRomArea_cartridge {n : Nat} {s : State} (h : 0x100 ≤ n ∨ s.bootEnabled = false) :
    readRomArea n s = mapperReadRom n s := by
  have hno : (decide (n < 0x100) && s.bootEnabled) = false := by
    rcases h with hn | hboot
    · rw [decide_eq_false (Nat.not_lt.mpr hn), Bool.false_and]
    · rw [hboot, Bool.and_false]
  unfold readRomArea
  rw [hno]
  rfl

/-- Bank 0 is the first of the image, as NoMapper reads it (R133, R151). -/
theorem mapperReadRom_fixed {n : Nat} {s : State} (hn : n < 0x4000) : mapperReadRom n s = Memory.read s.rom.buf n := by
  have hbank : bankReadAt (romGeom s.cfg) 0 n s.rom = Memory.read s.rom.buf n := by
    rw [bankReadAt, Nat.zero_mod, Nat.zero_mul, Nat.zero_add]
    exact if_pos hn
  unfold mapperReadRom
  cases s.mapper
  case noMapper => rfl
  all_goals exact (if_pos hn).trans hbank

theorem mapperReadRom_noMapper (n : Nat) {s : State} (hm : s.mapper = .noMapper) :
    mapperReadRom n s = Memory.read s.rom.buf n := by
  rw [mapperReadRom, hm]

theorem mapperReadRom_switched {n : Nat} {s : State} (h1 : 0x4000 ≤ n) (h2 : n < 0x8000) (hm : s.mapper ≠ .noMapper) :
    mapperReadRom n s = Memory.read s.rom.buf (s.rom.current * 0x4000 + (n - 0x4000)) := by
  have hbank : bankRead (romGeom s.cfg) (n - 0x4000) s.rom =
      Memory.read s.rom.buf (s.rom.current * 0x4000 + (n - 0x4000)) :=
    if_pos (show n - 0x4000 < 0x4000 by omega)
  unfold mapperReadRom
  cases hk : s.mapper
  case noMapper => exact absurd hk hm
  all_goals exact (if_neg (Nat.not_lt.mpr h1)).trans hbank

theorem regionOf_cartRam {a : Word} (h1 : 0xA000 ≤ a.toNat) (h2 : a.toNat < 0xC000) :
    regionOf a = .cartRam (a.toNat - 0xA000) := by
  dsimp only [regionOf]
  rw [if_neg (by omega), if_neg (by omega), if_pos h2]

/-- The gate of cartridge RAM (R150). -/
theorem cartRamOpen_iff (s : State) :
    cartRamOpen s = true ↔ s.cfg.cartRamSize ≠ .none ∧
      match s.mapper with
      | .noMapper => True
      | .mbc1 r => r.ramEnabled = true
      | .mbc3 r => r.ramEnabled = true := by
  rw [cartRamOpen, Bool.and_eq_true, bne_iff_ne, and_comm]
  refine and_congr_right fun _ => ?_
  unfold ramEnabled
  cases s.mapper
  case noMapper => exact iff_of_true rfl trivial
  all_goals exact Iff.rfl

theorem rawRead_cartRam {a : Word} (h1 : 0xA000 ≤ a.toNat) (h2 : a.toNat < 0xC000) (s : State) :
    rawRead a s = mapperReadRam (a.toNat - 0xA000) s := by
  rw [rawRead_eq_regionByte, regionOf_cartRam h1 h2]
  rfl

theorem mapperReadRam_open {off : Nat} {s : State} (hopen : cartRamOpen s = true)
    (hoff : off < CartRamSize.bankSize s.cfg.cartRamSize) :
    mapperReadRam off s =
      Memory.read s.cartRam.buf (s.cartRam.current * CartRamSize.bankSize s.cfg.cartRamSize + off) := by
  rw [mapperReadRam, if_pos hopen]
  exact if_pos hoff

/-- Behind the gate, and past the bank, a read gives 0xFF and a write is discarded. -/
theorem mapperRam_closed {off : Nat} {s : State} (v : Byte)
    (h : ¬(cartRamOpen s = true ∧ off < CartRamSize.bankSize s.cfg.cartRamSize)) :
    mapperReadRam off s = 0xFF ∧ mapperWriteRam off v s = s := by
  unfold mapperReadRam mapperWriteRam
  split
  next hopen =>
    have hoff : ¬off < (cartRamGeom s.cfg).size := fun hoff => h ⟨hopen, hoff⟩
    rw [bankRead, bankWrite, if_neg hoff, if_neg hoff]
    exact ⟨rfl, rfl⟩
  · exact ⟨rfl, rfl⟩

/-! ## The PPU's switch -/

end Sys2Proof.Machine

open Sys2Proof.Machine

/-- Settles O44: a write of the ROM area is `mapperWriteRom`, whose fields are the low bits of the byte. -/
theorem mapperCommands : Obligations.MapperCommands := by
  intro a v s hdma ha n b t enable ramBank
  have ht : t = mapperWriteRom n v s := busWrite_rom v hdma ha
  have henable (old : Bool) : enable old = ramEnableWrite s.cfg.mbcRamenPolicy old v :=
    (ramEnableWrite_eq s.cfg.mbcRamenPolicy old v).symm
  clear_value t enable
  cases hm : s.mapper with
  | noMapper => rw [ht, mapperWriteRom, hm]
  | mbc1 r =>
    rw [mapperWriteRom, hm] at ht
    dsimp only at ht
    refine ⟨fun h => ?_, fun h1 h2 => ?_, fun h1 h2 => ?_, fun h => ?_⟩
    · rw [ht, mbc1Write, if_pos h, henable]
    · rw [ht, mbc1Write, if_neg (by omega), if_pos h2, zeroRemap_lowField (m := 32) rfl, mbc1UpdateBanks_eq]
    · rw [ht, mbc1Write, if_neg (by omega), if_neg (by omega), if_pos h2, lowField_eq (m := 4) rfl, mbc1UpdateBanks_eq]
    · rw [ht, mbc1Write, if_neg (by omega), if_neg (by omega), if_neg (by omega), getLsbD_zero_eq, mbc1UpdateBanks_eq]
  | mbc3 r =>
    rw [mapperWriteRom, hm] at ht
    dsimp only at ht
    refine ⟨fun h => ?_, fun h1 h2 => ?_, fun h1 h2 => ?_, fun h => ?_⟩
    · rw [ht, mbc3Write, if_pos h, henable]
    · have hbank : (if v.toNat % 128 = 0 then 1 else v.toNat % 128) % 128 =
          if v.toNat % 128 = 0 then 1 else v.toNat % 128 := by
        split <;> omega
      rw [mbc3Write, if_neg (by omega), if_pos h2, zeroRemap_lowField (m := 128) rfl] at ht
      dsimp only [switchBank, romGeom] at ht
      rw [BitVec.toNat_ofNat, hbank] at ht
      exact ht
    · rw [mbc3Write, if_neg (by omega), if_neg (by omega), if_pos h2, lowField_eq (m := 4) rfl] at ht
      dsimp only [switchBank, cartRamGeom] at ht
      rw [BitVec.toNat_ofNat, Nat.mod_mod] at ht
      exact ht
    · rw [ht, mbc3Write, if_neg (by omega), if_neg (by omega), if_neg (by omega)]

/-- Settles O45: the overlay, bank 0 and the current bank of ROM, and the gate of cartridge RAM. -/
theorem cartridgeReads : Obligations.CartridgeReads := by
  intro a v s n off size opened
  refine ⟨fun hn hboot => ?_, fun hn hcart => ?_, fun h1 h2 hm => ?_, fun h1 h2 hm => ?_, fun h1 h2 hopen hoff => ?_,
    fun h1 h2 hclosed => ?_⟩
  · rw [rawRead_rom (by omega), readRomArea_overlay hn hboot]
  · rw [rawRead_rom (by omega), readRomArea_cartridge hcart, mapperReadRom_fixed hn]
  · rw [rawRead_rom h2, readRomArea_cartridge (.inl (by omega)), mapperReadRom_noMapper _ hm]
  · rw [rawRead_rom h2, readRomArea_cartridge (.inl (by omega)), mapperReadRom_switched h1 h2 hm]
  · rw [rawRead_cartRam h1 h2, mapperReadRam_open ((cartRamOpen_iff s).mpr hopen) hoff]
  · have hgate : ¬(cartRamOpen s = true ∧ off < size) := fun h => hclosed ⟨(cartRamOpen_iff s).mp h.1, h.2⟩
    obtain ⟨hread, hwrite⟩ := mapperRam_closed v hgate
    unfold rawWrite decodeWrite
    rw [rawRead_cartRam h1 h2, regionOf_cartRam h1 h2]
    exact ⟨hread, hwrite⟩

/-- Settles O46: the two edges of `writeLcdc`, and the budget of the PPU at rest. -/
theorem lcdSwitch : Obligations.LcdSwitch := by
  constructor
  · intro v s old new
    rw [busWrite_io (r := .lcdc) rfl, writeIo, writeLcdc]
    have hfall : (old && !new) = true ↔ old = true ∧ new = false := by simp
    have hrise : (!old && new) = true ↔ old = false ∧ new = true := by simp
    dsimp only
    rw [if_congr hfall rfl (if_congr hrise rfl rfl)]
    rfl
  · intro n s hoff
    have hspent : s.ppu.offBudget - n ≤ 0 ↔ s.ppu.offBudget ≤ n := by omega
    rw [ppuAdvance_off n hoff]
    unfold ppuOffTick
    exact if_congr hspent rfl rfl

end

section
/-! PROOF. What the renderer reads (spec/61_ppu.md R452 to R461): the sprites of a line and the background or window pixel, in the numbers of the rules. -/

namespace Sys2Proof.Machine

/-! ## Sprite selection (R452) -/

/-- The first ten of a rising list: one is left out only after ten smaller ones. -/
theorem take_ten_of_not_mem {cov : List Nat} {i : Nat} (hsorted : cov.Pairwise (· < ·)) (hi : i ∈ cov)
    (hout : i ∉ cov.take 10) : (cov.take 10).length = 10 ∧ ∀ j ∈ cov.take 10, j < i := by
  rw [← List.take_append_drop 10 cov] at hsorted hi
  have hdrop : i ∈ cov.drop 10 := (List.mem_append.mp hi).resolve_left hout
  have hlong := List.length_pos_of_mem hdrop
  rw [List.length_drop] at hlong
  exact ⟨by rw [List.length_take]; omega, fun j hj => (List.pairwise_append.mp hsorted).2.2 j hj i hdrop⟩

theorem mem_spritesOnLine {ly i : Nat} {s : State} :
    i ∈ (List.range 40).filter (fun i => spriteOnLine ly i s) ↔
      i < 40 ∧ (oamByte i 0 s).toNat ≤ ly + 16 ∧ ly + 16 < (oamByte i 0 s).toNat + spriteHeight s := by
  rw [List.mem_filter, List.mem_range, spriteOnLine, Bool.and_eq_true, decide_eq_true_eq, decide_eq_true_eq]

theorem pairwise_spritesOnLine (ly : Nat) (s : State) :
    ((List.range 40).filter fun i => spriteOnLine ly i s).Pairwise (· < ·) :=
  List.pairwise_lt_range.filter _

/-! ## Colours and palettes (R41, R455, R458) -/

theorem planeIndex_eq (lo hi : Byte) (b : Nat) :
    planeIndex lo hi b = BitVec.ofNat 2 (2 * (hi.getLsbD b).toNat + (lo.getLsbD b).toNat) := by
  unfold planeIndex
  cases hi.getLsbD b <;> cases lo.getLsbD b <;> rfl

theorem paletteShade_ofNat (p : Byte) {k : Nat} (hk : k < 4) :
    paletteShade p (BitVec.ofNat 2 k) = BitVec.ofNat 2 (p.toNat / 4 ^ k % 4) := by
  have hpow : 2 ^ (2 * k) = 4 ^ k := Nat.pow_mul 2 2 k
  apply BitVec.eq_of_toNat_eq
  rw [paletteShade, BitVec.toNat_ofNat, Nat.mod_eq_of_lt hk, BitVec.extractLsb'_toNat, BitVec.toNat_ofNat,
    Nat.shiftRight_eq_div_pow, hpow, Nat.mod_mod]

theorem two_bits_lt (x y : Bool) : 2 * x.toNat + y.toNat < 4 := by
  cases x <;> cases y <;> decide

/-! ## Tiles and maps (R455, R456) -/

/-- The VRAM byte at an address. -/
def vramAt (addr : Nat) (s : State) : Byte := Memory.read s.vram.buf (addr - 0x8000)

/-- The address of a background or window tile. -/
def tileAddr (t : Nat) (s : State) : Nat :=
  if lcdcBit 4 s then 0x8000 + 16 * t else if t < 128 then 0x9000 + 16 * t else 0x8800 + 16 * (t - 128)

/-- The two planes of a tile's row, at their addresses. -/
theorem vramByte_tile (t : Byte) (k : Nat) (s : State) :
    vramByte (tileOffset t s + k) s = vramAt (tileAddr t.toNat s + k) s := by
  have hoff : tileOffset t s + k = tileAddr t.toNat s + k - 0x8000 := by
    unfold tileOffset tileAddr
    split
    · omega
    · rw [BitVec.toInt_eq_toNat_cond]
      split <;> split <;> omega
  unfold vramByte vramAt
  rw [hoff]

theorem vramByte_map (high : Bool) (k : Nat) (s : State) :
    vramByte (mapOffset high + k) s = vramAt ((if high then 0x9C00 else 0x9800) + k) s := by
  have hoff : mapOffset high + k = (if high then 0x9C00 else 0x9800) + k - 0x8000 := by
    unfold mapOffset
    split <;> omega
  unfold vramByte vramAt
  rw [hoff]

/-- A pixel of a map, by addresses. -/
theorem mapPixel_eq (high : Bool) (px py : Nat) (s : State) :
    mapPixel (mapOffset high) px py s =
      let t := (vramAt ((if high then 0x9C00 else 0x9800) + 32 * (py / 8) + px / 8) s).toNat
      let row := tileAddr t s + 2 * (py % 8)
      BitVec.ofNat 2
        (2 * ((vramAt (row + 1) s).getLsbD (7 - px % 8)).toNat + ((vramAt row s).getLsbD (7 - px % 8)).toNat) := by
  simp only [mapPixel, planeIndex_eq, add_assoc, vramByte_map, vramByte_tile]

theorem bgWinIndex_eq {x ly : Nat} {s : State} (hon : lcdcBit 0 s = true) :
    bgWinIndex x ly s =
      mapPixel (mapOffset (if inWindow x ly s then lcdcBit 6 s else lcdcBit 3 s))
        (if inWindow x ly s then x + 7 - s.ppu.wx.toNat else (x + s.ppu.scx.toNat) % 256)
        (if inWindow x ly s then ly - s.ppu.wy.toNat else (ly + s.ppu.scy.toNat) % 256) s := by
  rw [bgWinIndex, if_pos hon]
  cases inWindow x ly s <;> rfl

end Sys2Proof.Machine

open Sys2Proof.Machine

/-- Settles O50: the selection is the first ten of the entries on the line, which stand in OAM order. -/
theorem spriteSelection : Obligations.SpriteSelection := by
  intro ly s h y covers sel
  refine ⟨fun hoff => if_neg (Bool.eq_false_iff.mp hoff), fun hon => ?_⟩
  have hsel : sel = ((List.range 40).filter fun i => spriteOnLine ly i s).take 10 := if_pos hon
  rw [hsel]
  have hsorted := pairwise_spritesOnLine ly s
  refine ⟨List.length_take_le _ _, hsorted.sublist (List.take_sublist _ _), fun i hi => ?_, fun i hi hcov hout => ?_⟩
  · exact mem_spritesOnLine.mp (List.mem_of_mem_take hi)
  · exact take_ten_of_not_mem hsorted (mem_spritesOnLine.mpr ⟨hi, hcov⟩) hout

/-- Settles O52: the pixel is one of a map at its address, and its shade two bits of BGP. -/
theorem backgroundAndWindowPixel : Obligations.BackgroundAndWindowPixel := by
  intro x ly s hx hly bit wy wx inWin px py map vram t tile lo hi idx
  refine ⟨fun hoff => ?_, fun hon => ?_⟩
  · have hindex : bgWinIndex x ly s = 0 := if_neg (Bool.eq_false_iff.mp hoff)
    rw [bgWinPixel, hindex]
    exact congrArg (Prod.mk 0) (if_neg (Bool.eq_false_iff.mp hoff))
  · have hindex : bgWinIndex x ly s = BitVec.ofNat 2 idx := (bgWinIndex_eq hon).trans (mapPixel_eq _ _ _ _)
    have hshade : paletteShade s.ppu.bgp (BitVec.ofNat 2 idx) = BitVec.ofNat 2 (s.ppu.bgp.toNat / 4 ^ idx % 4) :=
      paletteShade_ofNat s.ppu.bgp (two_bits_lt _ _)
    rw [bgWinPixel, hindex, ← hshade]
    exact congrArg (Prod.mk _) (if_pos hon)

end

section
/-! PROOF. The line renderer against the loops of the rules (spec/61_ppu.md R460 to R463): both framebuffers are canonical, so it is enough that they read alike, and a pixel of the line is reached by at most one column of each sprite. -/

namespace Sys2Proof.Machine

/-- Two canonical memories that read alike are one. -/
theorem Sparse.ext_read {α : Type} {d : α} {m m' : List (Nat × α)} (hm : Sparse.wf d m) (hm' : Sparse.wf d m')
    (h : ∀ a, Sparse.read d m a = Sparse.read d m' a) : m = m' := by
  induction m generalizing m' with
  | nil =>
    match m' with
    | [] => rfl
    | (k, v) :: _ =>
      obtain ⟨-, hv, -⟩ := Sparse.wf_cons.mp hm'
      exact absurd (by simpa [Sparse.read] using (h k).symm) hv
  | cons c m ih =>
    obtain ⟨k, v⟩ := c
    obtain ⟨hk, hv, htail⟩ := Sparse.wf_cons.mp hm
    match m' with
    | [] => exact absurd (by simpa [Sparse.read] using h k) hv
    | (k', v') :: m' =>
      obtain ⟨hk', hv', htail'⟩ := Sparse.wf_cons.mp hm'
      obtain hlt | rfl | hgt := Nat.lt_trichotomy k k'
      · exact absurd (by simpa [Sparse.read, hlt] using h k) hv
      · have hvv : v = v' := by simpa [Sparse.read] using h k
        rw [hvv, ih htail htail' fun a => ?_]
        by_cases ha : a ≤ k
        · rw [Sparse.read_below d m a fun e he => ha.trans_lt (hk e he),
            Sparse.read_below d m' a fun e he => ha.trans_lt (hk' e he)]
        · simpa [Sparse.read, show ¬a < k by omega, show a ≠ k by omega] using h a
      · exact absurd (by simpa [Sparse.read, hgt] using (h k').symm) hv'

theorem Framebuffer.ext_read {m m' : Framebuffer} (hm : Framebuffer.wf m) (hm' : Framebuffer.wf m')
    (h : ∀ i, Framebuffer.read m i = Framebuffer.read m' i) : m = m' :=
  Sparse.ext_read hm hm' h

/-! ## One sprite at one pixel (R462) -/

/-- The shade a sprite paints over a pixel, if it paints it. -/
def spriteShade (x ly : Nat) (bgIdx : BitVec 2) (s : State) (i : Nat) : Option (BitVec 2) :=
  match spriteIndex i x ly s with
  | none => none
  | some idx =>
    if idx = 0 then none
    else if (oamByte i 3 s).getLsbD 7 && bgIdx != 0 then none
    else some (paletteShade (if (oamByte i 3 s).getLsbD 4 then s.ppu.obp1 else s.ppu.obp0) idx)

theorem paintSprite_eq (x ly : Nat) (bgIdx : BitVec 2) (s : State) (shade : BitVec 2) (i : Nat) :
    paintSprite x ly bgIdx s shade i = (spriteShade x ly bgIdx s i).getD shade := by
  unfold paintSprite spriteShade
  cases spriteIndex i x ly s with
  | none => rfl
  | some idx =>
    dsimp only
    split
    · rfl
    · split <;> rfl

/-- A sprite paints nothing outside its eight columns (R463). -/
theorem spriteShade_outside {x ly i : Nat} {bgIdx : BitVec 2} {s : State}
    (h : ¬((oamByte i 1 s).toNat ≤ x + 8 ∧ x + 8 < (oamByte i 1 s).toNat + 8)) : spriteShade x ly bgIdx s i = none := by
  have hnone : spriteIndex i x ly s = none := if_neg fun hbox => h hbox.2.2
  unfold spriteShade
  rw [hnone]

/-- A write of a pixel, or none. -/
def writePixel (fb : Framebuffer) (j : Nat) : Option (BitVec 2) → Framebuffer
  | none => fb
  | some shade => Framebuffer.write fb j shade

/-- A tall sprite ignores the low bit of its tile number (R455). -/
theorem tile_even (t : Byte) : (t &&& 0xFE).toNat = t.toNat / 2 * 2 := by
  revert t
  decide

theorem spriteHeight_eq (s : State) : (if s.ppu.lcdc.getLsbD 2 then 16 else 8) = spriteHeight s := rfl

/-- The VRAM offset of a sprite's row on a line it covers (R455, R463). -/
def spriteRowOffset (ly : Nat) (s : State) (i : Nat) : Nat :=
  let row0 := ly + 16 - (oamByte i 0 s).toNat
  let row := if (oamByte i 3 s).getLsbD 6 then spriteHeight s - 1 - row0 else row0
  16 * (if spriteHeight s = 16 then oamByte i 2 s &&& 0xFE else oamByte i 2 s).toNat + 2 * row

/-- The colour index of column `col` of a sprite's row, from the two planes (R455, R463). -/
def spriteColumnIndex (ly : Nat) (s : State) (i col : Nat) : Nat :=
  let off := spriteRowOffset ly s i
  let b := if (oamByte i 3 s).getLsbD 5 then col else 7 - col
  2 * ((vramByte (off + 1) s).getLsbD b).toNat + ((vramByte off s).getLsbD b).toNat

theorem spriteIndex_eq {ly x i col : Nat} {s : State} (hcol : col < 8) (hx : x + 8 = (oamByte i 1 s).toNat + col)
    (hrows : (oamByte i 0 s).toNat ≤ ly + 16 ∧ ly + 16 < (oamByte i 0 s).toNat + spriteHeight s) :
    spriteIndex i x ly s = some (BitVec.ofNat 2 (spriteColumnIndex ly s i col)) := by
  have hcolumn : x + 8 - (oamByte i 1 s).toNat = col := by omega
  rw [spriteIndex]
  dsimp only
  rw [if_pos ⟨hrows.1, hrows.2, by omega, by omega⟩, planeIndex_eq, hcolumn]
  rfl

/-- The rules' row, of integers, is the model's. -/
theorem spriteRowOffset_eq {ly i : Nat} {s : State}
    (hrows : (oamByte i 0 s).toNat ≤ ly + 16 ∧ ly + 16 < (oamByte i 0 s).toNat + spriteHeight s) :
    16 * (if spriteHeight s = 16 then (oamByte i 2 s).toNat / 2 * 2 else (oamByte i 2 s).toNat) +
        2 * (if (oamByte i 3 s).getLsbD 6 then (spriteHeight s : Int) - 1 - ((ly : Int) + 16 - (oamByte i 0 s).toNat)
          else (ly : Int) + 16 - (oamByte i 0 s).toNat).toNat =
      spriteRowOffset ly s i := by
  rw [spriteRowOffset, apply_ite BitVec.toNat, tile_even]
  congr 2
  split <;> omega

/-- The rules' two tests and the palette, for an index of two bits. -/
theorem writePixel_index (fb : Framebuffer) (j : Nat) {k : Nat} (hk : k < 4) (behind : Bool) (bgIdx : BitVec 2)
    (palette : Byte) :
    (if k = 0 then fb
      else if behind = true ∧ bgIdx ≠ 0 then fb
      else Framebuffer.write fb j (BitVec.ofNat 2 (palette.toNat / 4 ^ k % 4))) =
      writePixel fb j (if BitVec.ofNat 2 k = 0 then none
        else if behind && bgIdx != 0 then none else some (paletteShade palette (BitVec.ofNat 2 k))) := by
  have hzero : k = 0 ↔ BitVec.ofNat 2 k = 0 := by
    rw [BitVec.toNat_eq, BitVec.toNat_ofNat, Nat.mod_eq_of_lt hk]
    rfl
  have hbehind : (behind = true ∧ bgIdx ≠ 0) ↔ (behind && bgIdx != 0) = true := by simp
  rw [if_congr hzero rfl (if_congr hbehind rfl rfl), paletteShade_ofNat palette hk]
  split
  · rfl
  · split <;> rfl

/-- A column of a sprite is one pixel of the line or off the screen. -/
theorem spriteColumn_eq (ly : Nat) (s : State) (i : Nat) (fb : Framebuffer) (x : Nat) {col : Nat}
    (hcol : col < 8) (hx : x + 8 = (oamByte i 1 s).toNat + col) (hscreen : x < 160) :
    spriteColumn ly s i fb col = writePixel fb (ly * 160 + x) (spriteShade x ly (bgWinPixel x ly s).1 s i) := by
  have hsx : ((oamByte i 1 s).toNat : Int) - 8 + col = x := by omega
  have hby (k : Nat) : Memory.read s.oam (4 * i + k) = oamByte i k s := rfl
  have hby0 : Memory.read s.oam (4 * i) = oamByte i 0 s := rfl
  have hvram (off : Nat) : Memory.read s.vram.buf off = vramByte off s := rfl
  unfold spriteColumn
  dsimp only
  rw [hby0, hby, hby, hby, hsx, spriteHeight_eq, if_neg (c := (x : Int) < 0 ∨ 159 < (x : Int)) (by omega),
    Int.toNat_natCast]
  by_cases hrows : (oamByte i 0 s).toNat ≤ ly + 16 ∧ ly + 16 < (oamByte i 0 s).toNat + spriteHeight s
  · rw [if_neg (by omega), spriteRowOffset_eq hrows, hvram, hvram, spriteShade, spriteIndex_eq hcol hx hrows]
    exact writePixel_index fb _ (two_bits_lt _ _) _ _ _
  · have hnone : spriteIndex i x ly s = none := if_neg fun hbox => hrows ⟨hbox.1, hbox.2.1⟩
    rw [if_pos (by omega), spriteShade, hnone]
    rfl

theorem spriteColumn_off (ly : Nat) (s : State) (i : Nat) (fb : Framebuffer) {col : Nat}
    (hoff : (oamByte i 1 s).toNat + col < 8 ∨ 168 ≤ (oamByte i 1 s).toNat + col) : spriteColumn ly s i fb col = fb := by
  have hsx : ((Memory.read s.oam (4 * i + 1)).toNat : Int) - 8 + col < 0 ∨
      159 < ((Memory.read s.oam (4 * i + 1)).toNat : Int) - 8 + col := by
    change ((oamByte i 1 s).toNat : Int) - 8 + col < 0 ∨ 159 < ((oamByte i 1 s).toNat : Int) - 8 + col
    omega
  unfold spriteColumn
  dsimp only
  rw [if_pos hsx, ite_self]

/-! ## A sprite's eight columns -/

theorem writePixel_wf {fb : Framebuffer} (j : Nat) (shade : Option (BitVec 2)) (h : Framebuffer.wf fb) :
    Framebuffer.wf (writePixel fb j shade) := by
  cases shade with
  | none => exact h
  | some shade => exact Framebuffer.write_wf fb j shade h

theorem read_writePixel {fb : Framebuffer} (j k : Nat) (shade : Option (BitVec 2)) (h : Framebuffer.wf fb) :
    Framebuffer.read (writePixel fb j shade) k =
      if k = j then shade.getD (Framebuffer.read fb k) else Framebuffer.read fb k := by
  cases shade with
  | none => exact (ite_self _).symm
  | some shade =>
    split
    next hk => exact hk ▸ Framebuffer.read_write_same fb j shade h
    next hk => exact Framebuffer.read_write_other fb j k shade hk h

/-- What a pass over the first `n` pixels of a line has made of a framebuffer: it is canonical, those pixels have these
shades, and every other pixel is as before. -/
def LineDrawn (n ly : Nat) (fb fb' : Framebuffer) (shade : Nat → BitVec 2) : Prop :=
  Framebuffer.wf fb' ∧
    ∀ k, Framebuffer.read fb' k =
      if ly * 160 ≤ k ∧ k < ly * 160 + n then shade (k - ly * 160) else Framebuffer.read fb k

theorem LineDrawn.congr {n ly : Nat} {fb fb' : Framebuffer} {f g : Nat → BitVec 2} (h : LineDrawn n ly fb fb' f)
    (hfg : ∀ x < n, f x = g x) : LineDrawn n ly fb fb' g := by
  refine ⟨h.1, fun k => (h.2 k).trans ?_⟩
  split
  · exact hfg _ (by omega)
  · rfl

theorem LineDrawn.unique {n ly : Nat} {fb fb1 fb2 : Framebuffer} {f : Nat → BitVec 2} (h1 : LineDrawn n ly fb fb1 f)
    (h2 : LineDrawn n ly fb fb2 f) : fb1 = fb2 :=
  Framebuffer.ext_read h1.1 h2.1 fun k => (h1.2 k).trans (h2.2 k).symm

/-- A line written from left to right. -/
theorem lineWrites_drawn (ly : Nat) (f : Nat → BitVec 2) {fb : Framebuffer} (h : Framebuffer.wf fb) (n : Nat) :
    LineDrawn n ly fb ((List.range n).foldl (fun fb x => Framebuffer.write fb (ly * 160 + x) (f x)) fb) f := by
  induction n with
  | zero => exact ⟨h, fun k => (if_neg (by omega)).symm⟩
  | succ n ih =>
    obtain ⟨hwf, hread⟩ := ih
    rw [List.range_succ, List.foldl_append]
    refine ⟨Framebuffer.write_wf _ _ _ hwf, fun k => ?_⟩
    by_cases hk : k = ly * 160 + n
    · rw [hk, if_pos (by omega), Nat.add_sub_cancel_left]
      exact Framebuffer.read_write_same _ _ _ hwf
    · refine (Framebuffer.read_write_other _ _ _ _ hk hwf).trans ((hread k).trans ?_)
      exact if_congr (by omega) rfl rfl

/-- A column of a sprite paints at most its own pixel of the line. -/
theorem spriteColumn_drawn {ly : Nat} (s : State) (i : Nat) {fb0 fb : Framebuffer} {f : Nat → BitVec 2}
    (h : LineDrawn 160 ly fb0 fb f) {col : Nat} (hcol : col < 8) :
    LineDrawn 160 ly fb0 (spriteColumn ly s i fb col) fun x =>
      if x + 8 = (oamByte i 1 s).toNat + col then paintSprite x ly (bgWinPixel x ly s).1 s (f x) i else f x := by
  obtain ⟨hwf, hread⟩ := h
  by_cases hoff : (oamByte i 1 s).toNat + col < 8 ∨ 168 ≤ (oamByte i 1 s).toNat + col
  · rw [spriteColumn_off ly s i fb hoff]
    exact LineDrawn.congr ⟨hwf, hread⟩ fun x hx => (if_neg (by omega)).symm
  · obtain ⟨x, hx⟩ : ∃ x, x + 8 = (oamByte i 1 s).toNat + col := ⟨(oamByte i 1 s).toNat + col - 8, by omega⟩
    rw [spriteColumn_eq ly s i fb x hcol hx (by omega)]
    refine ⟨writePixel_wf _ _ hwf, fun k => ?_⟩
    rw [read_writePixel _ _ _ hwf, hread]
    by_cases hk : k = ly * 160 + x
    · have hline : ly * 160 ≤ k ∧ k < ly * 160 + 160 := by omega
      have hpixel : k - ly * 160 = x := by omega
      rw [if_pos hk, if_pos hline, if_pos hline, hpixel, ← paintSprite_eq]
      exact (if_pos hx).symm
    · rw [if_neg hk]
      exact ite_congr rfl (fun hline => (if_neg (by omega)).symm) fun _ => rfl

/-- Column by column, a sprite paints the pixels its columns have passed. -/
theorem spriteColumns_drawn {ly : Nat} (s : State) (i : Nat) {fb0 fb : Framebuffer} {f : Nat → BitVec 2}
    (h : LineDrawn 160 ly fb0 fb f) {n : Nat} (hn : n ≤ 8) :
    LineDrawn 160 ly fb0 ((List.range n).foldl (spriteColumn ly s i) fb) fun x =>
      if (oamByte i 1 s).toNat ≤ x + 8 ∧ x + 8 < (oamByte i 1 s).toNat + n then
        paintSprite x ly (bgWinPixel x ly s).1 s (f x) i
      else f x := by
  induction n with
  | zero => exact h.congr fun x _ => (if_neg (by omega)).symm
  | succ n ih =>
    rw [List.range_succ, List.foldl_append]
    refine (spriteColumn_drawn s i (ih (by omega)) (by omega)).congr fun x _ => ?_
    by_cases hx : x + 8 = (oamByte i 1 s).toNat + n
    · rw [if_pos hx, if_neg (by omega), if_pos (by omega)]
    · rw [if_neg hx]
      exact if_congr (by omega) rfl rfl

/-- Its eight columns make a sprite. -/
theorem sprite_drawn {ly : Nat} (s : State) (i : Nat) {fb0 fb : Framebuffer} {f : Nat → BitVec 2}
    (h : LineDrawn 160 ly fb0 fb f) :
    LineDrawn 160 ly fb0 ((List.range 8).foldl (spriteColumn ly s i) fb) fun x =>
      paintSprite x ly (bgWinPixel x ly s).1 s (f x) i := by
  refine (spriteColumns_drawn s i h le_rfl).congr fun x _ => ?_
  split
  · rfl
  next hx => rw [paintSprite_eq, spriteShade_outside hx, Option.getD_none]

theorem sprites_drawn {ly : Nat} (s : State) (order : List Nat) {fb0 fb : Framebuffer} {f : Nat → BitVec 2}
    (h : LineDrawn 160 ly fb0 fb f) :
    LineDrawn 160 ly fb0 (order.foldl (fun fb i => (List.range 8).foldl (spriteColumn ly s i) fb) fb) fun x =>
      order.foldl (paintSprite x ly (bgWinPixel x ly s).1 s) (f x) := by
  induction order generalizing fb f with
  | nil => exact h
  | cons i order ih => exact ih (sprite_drawn s i h)

/-- The painting order of the rules. -/
theorem spriteOrder_eq (s : State) :
    spriteOrder s = if s.cfg.objDrawOrder = .descending then s.ppu.lineSprites.reverse else s.ppu.lineSprites := by
  unfold spriteOrder
  cases s.cfg.objDrawOrder <;> rfl

/-- The renderer is the loops of the rules (log entry 10). -/
theorem renderLine_eq_loops (ly : Nat) {s : State} (h : Framebuffer.wf s.ppu.fb) :
    renderLine ly s = renderLineByLoops ly s := by
  have hloops := sprites_drawn s (spriteOrder s) (lineWrites_drawn ly (fun x => (bgWinPixel x ly s).2) h 160)
  have hpixels := lineWrites_drawn ly (fun x => linePixel x ly s) h 160
  rw [renderLine, renderLineByLoops, hpixels.unique hloops, spriteOrder_eq]

end Sys2Proof.Machine

open Sys2Proof.Machine

/-- Settles O51: the loops draw the same line, and the output is the colour of each stored shade. -/
theorem renderLineIsTheSpecLoop : Obligations.RenderLineIsTheSpecLoop := by
  refine ⟨fun x y s => rfl, fun ly s hwf => ⟨renderLine_eq_loops ly hwf, fun x hx => ?_⟩⟩
  obtain ⟨-, hread⟩ := renderLine_fb ly s hwf
  have hline : Framebuffer.read (renderLine ly s).ppu.fb (ly * 160 + x) = linePixel x ly s := by
    rw [hread, if_pos (by omega), Nat.add_sub_cancel_left]
  refine ⟨congrArg (ShadeColors.color s.cfg.shadeColor) hline, fun y hy => ?_⟩
  exact congrArg (ShadeColors.color s.cfg.shadeColor) ((hread _).trans (if_neg (by omega)))

end

section
/-! PROOF. The timer (spec/62_timer_dma_joypad.md R500, R502): an advance is a move of DIV and a number of TIMA counts that adds up over advances, since every period divides the range of DIV. Then the OAM DMA copy (R510, R511). -/

namespace Sys2Proof.Machine

/-! ## TIMA counts (R502) -/

theorem timaCounts_add (j k : Nat) (s : State) : timaCounts (j + k) s = timaCounts k (timaCounts j s) := by
  induction j generalizing s with
  | zero => rw [Nat.zero_add]; rfl
  | succ j ih => rw [Nat.succ_add]; exact ih (timaCount s)

/-- A state with DIV set. -/
def setDiv (d : Word) (s : State) : State := { s with timer := { s.timer with div := d } }

theorem timaCount_eq (s : State) :
    timaCount s =
      { s with
        timer := { s.timer with tima := if s.timer.tima = 0xFF then s.timer.tma else s.timer.tima + 1 }
        ifReg := if s.timer.tima = 0xFF then s.ifReg ||| 0b00100 else s.ifReg } := by
  unfold timaCount
  split <;> rfl

theorem timaCount_setDiv (d : Word) (s : State) : timaCount (setDiv d s) = setDiv d (timaCount s) := by
  rw [timaCount_eq, timaCount_eq]
  rfl

theorem timaCounts_succ (k : Nat) (s : State) : timaCounts (k + 1) s = timaCounts k (timaCount s) := rfl

theorem timaCounts_setDiv (k : Nat) (d : Word) (s : State) : timaCounts k (setDiv d s) = setDiv d (timaCounts k s) := by
  induction k generalizing s with
  | zero => rfl
  | succ k ih => rw [timaCounts_succ, timaCount_setDiv, ih, timaCounts_succ]

/-- Short of an overflow TIMA counts up. -/
theorem timaCounts_of_lt {k : Nat} {s : State} (h : s.timer.tima.toNat + k < 256) :
    (timaCounts k s).timer.tima = s.timer.tima + BitVec.ofNat 8 k ∧ (timaCounts k s).ifReg = s.ifReg := by
  induction k generalizing s with
  | zero => exact ⟨(BitVec.add_zero _).symm, rfl⟩
  | succ k ih =>
    have hne : s.timer.tima ≠ 0xFF := fun he => by
      have hfull : (0xFF : Byte).toNat = 255 := rfl
      rw [he, hfull] at h
      omega
    have htima : (timaCount s).timer.tima = s.timer.tima + 1 := by rw [timaCount_eq]; exact if_neg hne
    have hif : (timaCount s).ifReg = s.ifReg := by rw [timaCount_eq]; exact if_neg hne
    have hnext : (s.timer.tima + 1).toNat = s.timer.tima.toNat + 1 :=
      (BitVec.toNat_add _ _).trans (Nat.mod_eq_of_lt (by simp; omega))
    obtain ⟨ihtima, ihif⟩ := ih (s := timaCount s) (by rw [htima]; omega)
    refine ⟨?_, ihif.trans hif⟩
    rw [timaCounts_succ, ihtima, htima, add_assoc, add_comm 1, BitVec.ofNat_add]
    rfl

/-- TIMA counts leave TMA. -/
theorem timaCounts_tma (k : Nat) (s : State) : (timaCounts k s).timer.tma = s.timer.tma := by
  rw [timaCounts_timerOnly k s]

/-- The count past 0xFF loads TMA and requests the interrupt. -/
theorem timaCounts_overflow {k : Nat} {s : State} (h : s.timer.tima.toNat + k = 256) :
    (timaCounts k s).timer.tima = s.timer.tma ∧ (timaCounts k s).ifReg = s.ifReg ||| 0b00100 := by
  have hlt := s.timer.tima.isLt
  obtain ⟨j, rfl⟩ : ∃ j, k = j + 1 := ⟨k - 1, by omega⟩
  obtain ⟨htima, hif⟩ := timaCounts_of_lt (k := j) (s := s) (by omega)
  have hfull : (timaCounts j s).timer.tima = 0xFF := by
    rw [htima]
    apply BitVec.eq_of_toNat_eq
    rw [BitVec.toNat_add, BitVec.toNat_ofNat]
    simp
    omega
  rw [timaCounts_add, ← timaCounts_tma j s, ← hif]
  change (timaCount (timaCounts j s)).timer.tima = _ ∧ (timaCount (timaCounts j s)).ifReg = _
  rw [timaCount_eq]
  exact ⟨if_pos hfull, if_pos hfull⟩

/-! ## The advance (R500) -/

/-- The period by the number in TAC bits 1:0 (R502). -/
def periodOf : Nat → Nat
  | 0 => 1024
  | 1 => 16
  | 2 => 64
  | _ => 256

theorem timaPeriod_eq (tac : Byte) : timaPeriod tac = periodOf (tac.toNat % 4) :=
  congrArg periodOf ((BitVec.extractLsb'_toNat ..).trans (by rw [Nat.shiftRight_zero]))

/-- Every period divides the range of DIV. -/
theorem timaPeriod_dvd (tac : Byte) : timaPeriod tac ∣ 65536 := by
  unfold timaPeriod
  split <;> decide

/-- The number of TIMA counts of an advance: the multiples of the period that DIV crosses. -/
def timerCounts (n : Nat) (s : State) : Nat :=
  if s.cfg.timerMode = .full ∧ s.timer.tac.getLsbD 2 = true then
    (s.timer.div.toNat + n) / timaPeriod s.timer.tac - s.timer.div.toNat / timaPeriod s.timer.tac
  else 0

theorem timerAdvance_eq (n : Nat) (s : State) :
    timerAdvance n s = setDiv (s.timer.div + BitVec.ofNat 16 n) (timaCounts (timerCounts n s) s) := by
  rw [← timaCounts_setDiv]
  unfold timerAdvance timerCounts
  cases s.cfg.timerMode with
  | reference => rfl
  | full =>
    dsimp only [timaAdvance]
    cases s.timer.tac.getLsbD 2 <;> rfl

/-- Counts of successive advances add up: DIV as it wraps differs from the sum by a multiple of the period. -/
theorem counts_add (p d m n : Nat) (hp : p ∣ 65536) :
    (d + m) / p - d / p + (((d + m) % 65536 + n) / p - (d + m) % 65536 / p) = (d + (m + n)) / p - d / p := by
  obtain ⟨q, hq⟩ := hp
  have hpos : 0 < p := Nat.pos_of_ne_zero fun h0 => by rw [h0, Nat.zero_mul] at hq; exact absurd hq (by decide)
  have hwrap : (d + m) % 65536 + p * (q * ((d + m) / 65536)) = d + m := by
    rw [← Nat.mul_assoc, ← hq]
    exact Nat.mod_add_div _ _
  have hnow := Nat.add_mul_div_left ((d + m) % 65536) (q * ((d + m) / 65536)) hpos
  have hthen := Nat.add_mul_div_left ((d + m) % 65536 + n) (q * ((d + m) / 65536)) hpos
  rw [Nat.add_right_comm, hwrap] at hthen
  rw [hwrap] at hnow
  have hle := Nat.div_le_div_right (c := p) (Nat.le_add_right d m)
  have hle' := Nat.div_le_div_right (c := p) (Nat.le_add_right ((d + m) % 65536) n)
  rw [← Nat.add_assoc, hthen, hnow]
  omega

theorem timerCounts_setDiv (n : Nat) (d : Word) (s : State) :
    timerCounts n (setDiv d s) =
      if s.cfg.timerMode = .full ∧ s.timer.tac.getLsbD 2 = true then
        (d.toNat + n) / timaPeriod s.timer.tac - d.toNat / timaPeriod s.timer.tac
      else 0 := rfl

theorem timerCounts_add (m n : Nat) (s : State) :
    timerCounts m s + timerCounts n (setDiv (s.timer.div + BitVec.ofNat 16 m) s) = timerCounts (m + n) s := by
  have hdiv : (s.timer.div + BitVec.ofNat 16 m).toNat = (s.timer.div.toNat + m) % 65536 := by
    rw [BitVec.toNat_add, BitVec.toNat_ofNat, Nat.add_mod_mod]
  have hadd := counts_add _ s.timer.div.toNat m n (timaPeriod_dvd s.timer.tac)
  rw [timerCounts_setDiv, timerCounts, timerCounts, hdiv]
  split
  · exact hadd
  · rfl

/-- The number of counts depends on DIV, TAC and the parameter alone. -/
theorem timerCounts_timaCounts (n k : Nat) (d : Word) (s : State) :
    timerCounts n (setDiv d (timaCounts k s)) = timerCounts n (setDiv d s) := by
  rw [timaCounts_timerOnly k s]
  rfl

theorem timerAdvance_add (m n : Nat) (s : State) : timerAdvance n (timerAdvance m s) = timerAdvance (m + n) s := by
  rw [timerAdvance_eq n, timerAdvance_eq m, timerAdvance_eq (m + n), timerCounts_timaCounts, timaCounts_setDiv,
    ← timaCounts_add, timerCounts_add, BitVec.ofNat_add, ← add_assoc]
  rfl

/-! ## The OAM DMA copy (R511) -/

/-- The address of byte `i` of the source block (R510). -/
def dmaSourceByte (s : State) (i : Nat) : Word := BitVec.ofNat 16 (256 * s.dma.reg.toNat + i)

theorem dmaSource_eq (s : State) : dmaSource s = dmaSourceByte s s.dma.index := by
  have hreg := s.dma.reg.isLt
  apply BitVec.eq_of_toNat_eq
  simp only [dmaSource, dmaSourceByte, joinBytes, BitVec.toNat_add, BitVec.toNat_append, BitVec.toNat_ofNat,
    Nat.shiftLeft_eq]
  simp
  omega

/-- A copied byte does not change the source of another, even where the block is OAM itself. -/
theorem rawRead_dmaCopy {s : State} (h : s.dma.index < 160) {i : Nat} (hi : i < 160) (hne : i ≠ s.dma.index)
    (hw : Memory.wf s.oam) : rawRead (dmaSourceByte s i) (dmaCopy s) = rawRead (dmaSourceByte s i) s := by
  rw [rawRead_eq_regionByte, rawRead_eq_regionByte, dmaCopy_eq s h]
  have hbounds := regionOf_bounds (dmaSourceByte s i)
  cases hr : regionOf (dmaSourceByte s i) with
  | oam off =>
    have haddr : (dmaSourceByte s i).toNat = (256 * s.dma.reg.toNat + i) % 65536 := BitVec.toNat_ofNat _ _
    have hreg := s.dma.reg.isLt
    rw [hr] at hbounds
    dsimp only at hbounds
    exact Memory.read_write_other _ _ _ _ (by omega) hw
  | io r => cases r <;> rfl
  | rom | vram | cartRam | wram | hram | ie | notCovered => rfl

theorem read_dmaCopies (k : Nat) {s : State} (hk : s.dma.index + k ≤ 160) (hw : Memory.wf s.oam) {i : Nat}
    (hi : i < 160) :
    Memory.read (dmaCopies k s).oam i =
      if s.dma.index ≤ i ∧ i < s.dma.index + k then rawRead (dmaSourceByte s i) s else Memory.read s.oam i := by
  induction k generalizing s with
  | zero => exact (if_neg (by omega)).symm
  | succ k ih =>
    have hlt : s.dma.index < 160 := by omega
    have hcopy := dmaCopy_eq s hlt
    have hsource : dmaSourceByte (dmaCopy s) i = dmaSourceByte s i := by rw [hcopy]; rfl
    have hindex : (dmaCopy s).dma.index = s.dma.index + 1 := by rw [hcopy]
    have hoam : (dmaCopy s).oam = Memory.write s.oam s.dma.index (rawRead (dmaSource s) s) := by rw [hcopy]
    rw [dmaCopies, ih (by omega) (by rw [hoam]; exact Memory.write_wf _ _ _ hw), hsource, hindex, hoam]
    by_cases heq : i = s.dma.index
    · rw [if_neg (by omega), if_pos (by omega), heq, Memory.read_write_same _ _ _ hw, dmaSource_eq]
    · rw [rawRead_dmaCopy hlt hi heq hw, Memory.read_write_other _ _ _ _ heq hw]
      exact if_congr (by omega) rfl rfl

/-- The transfer ends exactly when the index reaches the end of OAM. -/
theorem dmaAdvance_active (n : Nat) {s : State} (hactive : s.dma.active = true) (hindex : s.dma.index ≤ 160) :
    dmaAdvance n s =
      { dmaCopies (min (n / 4) (160 - s.dma.index)) s with
        dma := { s.dma with
          index := s.dma.index + min (n / 4) (160 - s.dma.index)
          active := decide (s.dma.index + min (n / 4) (160 - s.dma.index) < 160) } } := by
  have hk : s.dma.index + min (n / 4) (160 - s.dma.index) ≤ 160 := by omega
  rw [dmaAdvance, if_pos hactive]
  generalize min (n / 4) (160 - s.dma.index) = k at hk
  obtain ⟨hframe, hlast⟩ := dmaCopies_dmaOnly k s hk
  have hstill := (dmaCopies_active k s hk).trans hactive
  have hreg : (dmaCopies k s).dma.reg = s.dma.reg := by rw [hframe]
  generalize dmaCopies k s = t at hlast hstill hreg ⊢
  dsimp only
  rw [← hlast, ← hreg]
  split
  next hend => rw [hend]; rfl
  next hne =>
    rw [decide_eq_true (show t.dma.index < 160 by omega), ← hstill]

end Sys2Proof.Machine

open Sys2Proof.Machine

/-- Settles O53: DIV moves, and TIMA counts as often as DIV crosses a multiple of the period. -/
theorem timerAdvance : Obligations.TimerAdvance := by
  intro m n s t old period k
  have ht : t = setDiv (s.timer.div + BitVec.ofNat 16 n) (timaCounts (timerCounts n s) s) := timerAdvance_eq n s
  have hperiod : timaPeriod s.timer.tac = period := timaPeriod_eq s.timer.tac
  refine ⟨?_, timerAdvance_timerOnly n s, fun hoff => ?_, fun hmode htac => ?_, timerAdvance_add m n s⟩
  · rw [ht, BitVec.ofNat_add, BitVec.ofNat_toNat, BitVec.setWidth_eq]
    rfl
  · have hcounts : timerCounts n s = 0 := by
      refine if_neg fun hon => ?_
      rcases hoff with href | hclear
      · exact absurd (href.symm.trans hon.1) nofun
      · exact absurd (hclear.symm.trans hon.2) Bool.false_ne_true
    rw [ht, hcounts]
    exact ⟨rfl, rfl⟩
  · have hcounts : timerCounts n s = k := (if_pos ⟨hmode, htac⟩).trans (by rw [hperiod])
    rw [ht, hcounts]
    exact ⟨timaCounts_of_lt, timaCounts_overflow⟩

/-- Settles O54: the engine copies byte by byte, and no copy reaches the source of a later one. -/
theorem dmaCopiesTheBlock : Obligations.DmaCopiesTheBlock := by
  intro n s hw
  obtain ⟨-, -, -, -, -, hoam, -, -⟩ := hw
  refine ⟨fun hoff => if_neg (Bool.eq_false_iff.mp hoff), ?_⟩
  intro hactive hindex k t source
  have hk : s.dma.index + k ≤ 160 := by omega
  have ht : t = { dmaCopies k s with
      dma := { s.dma with index := s.dma.index + k, active := decide (s.dma.index + k < 160) } } :=
    dmaAdvance_active n hactive hindex
  obtain ⟨hframe, -⟩ := dmaCopies_dmaOnly k s hk
  rw [ht]
  refine ⟨?_, fun i hi => read_dmaCopies k hk hoam hi⟩
  rw [hframe]

end

section
/-! PROOF. Reset and launch (spec/10_state.md section 10, spec/21_cartridge_mapper.md R121, R122, spec/70_reset_and_hazards.md R530): the launched and the reset state are one function of the constants and images, which meets the invariant; the header's codes select its arguments. -/

namespace Sys2Proof.Machine

/-! ## The reset state -/

/-- The PPU at reset is at rest, off, with its whole budget (R51, R447). -/
theorem ppuInRange_of_reset {s : State} (h : s.ppu = Ppu.reset) : ppuInRange s := by
  unfold ppuInRange lcdcBit
  rw [h]
  exact ⟨Nat.zero_le _, iff_of_false nofun (by decide), (by decide : 0 < 204 - 0), Nat.zero_le _, nofun, rfl, fun _ => rfl,
    fun _ => ⟨rfl, rfl, rfl, rfl⟩, (by decide : (0 : Int) < 70224), le_rfl⟩

theorem dmaInRange_of_reset {s : State} (h : s.dma = { reg := 0, active := false, index := 0 }) : dmaInRange s := by
  unfold dmaInRange
  rw [h]
  exact ⟨Nat.zero_le _, nofun⟩

theorem reset_inv : Inv State.reset := by
  refine ⟨?_, ⟨rfl, rfl, rfl, rfl, rfl, rfl, rfl, rfl⟩, rfl, ⟨by decide, rfl, rfl, fun h => absurd rfl h⟩,
    ppuInRange_of_reset rfl, dmaInRange_of_reset rfl⟩
  have hempty : Memory.wf [] := Sparse.wf_nil _
  exact ⟨hempty, hempty, hempty, hempty, hempty, hempty, hempty, Sparse.wf_nil _⟩

theorem Memory.ofBytes_within {n : Nat} {bs : List Byte} (h : bs.length ≤ n) :
    Memory.within n (Memory.ofBytes bs) = true := by
  obtain ⟨-, hkeys⟩ := Sparse.ofValues_wf Memory.unlisted bs 0
  refine List.all_eq_true.mpr fun e he => decide_eq_true ?_
  have := hkeys e he
  omega

theorem Memory.filled_within (n : Nat) (v : Byte) : Memory.within n (Memory.filled n v) = true :=
  Memory.ofBytes_within (List.length_replicate ..).le

/-- An image fits what holds it: canonical, and within its size. -/
def imageOk (n : Nat) (m : Memory) : Prop := Memory.wf m ∧ Memory.within n m = true

theorem imageOk_ofBytes {n : Nat} {bs : List Byte} (h : bs.length ≤ n) : imageOk n (Memory.ofBytes bs) :=
  ⟨Memory.ofBytes_wf bs, Memory.ofBytes_within h⟩

/-- The state after reset meets the invariant, whatever its constants and images, with a ROM bank 1 to stand at. -/
theorem resetState_inv {cfg : Config} (mapper : Mapper) {rom bootRom cartRam : Memory} (inputs : List JoyInput)
    (hbanks : 2 ≤ cfg.romBankCount) (hrom : imageOk (cfg.romBankCount * 0x4000) rom) (hboot : imageOk 256 bootRom)
    (hram : imageOk (cartRamBytes cfg.cartRamSize) cartRam) :
    Inv (resetState cfg mapper rom bootRom cartRam inputs) := by
  have hfill (n : Nat) : Memory.wf (Memory.filled n cfg.initRam) := Memory.filled_wf n _
  have hfill' (n : Nat) : Memory.within n (Memory.filled n cfg.initRam) = true := Memory.filled_within n _
  refine ⟨⟨hrom.1, hboot.1, hfill _, hram.1, hfill _, hfill _, hfill _, Sparse.wf_nil _⟩,
    ⟨hrom.2, hboot.2, hfill' _, hram.2, hfill' _, hfill' _, hfill' _, rfl⟩, (by decide : (0 : Byte) &&& 0x0F = 0),
    ⟨hbanks, rfl, rfl, fun hsize => ?_⟩, ppuInRange_of_reset rfl, dmaInRange_of_reset rfl⟩
  change 0 < CartRamSize.bankCount cfg.cartRamSize
  change cfg.cartRamSize ≠ .none at hsize
  cases hc : cfg.cartRamSize with
  | none => exact absurd hc hsize
  | kb2 | kb8 | kb32 => decide

/-! ## The header's codes (R121, R122) -/

/-- The mapper of a header code that selects one. -/
def headerMapper (code : Nat) : Mapper :=
  if code = 0 then .noMapper
  else if code ≤ 3 then .mbc1 { ramEnabled := false, romBank := 1, secBank := 0, bankingMode := false }
  else .mbc3 { ramEnabled := false, romBank := 1, secBank := 0 }

/-- The RAM size of a header code that declares one. -/
def headerRamSize (code : Nat) : CartRamSize :=
  match code with
  | 0 => .none
  | 1 => .kb2
  | 2 => .kb8
  | _ => .kb32

theorem mapperOfCode_eq_some {code : Byte} {m : Mapper} :
    mapperOfCode code = some m ↔
      (code.toNat = 0 ∨ code.toNat ∈ [0x01, 0x02, 0x03, 0x0F, 0x10, 0x11, 0x12, 0x13]) ∧ m = headerMapper code.toNat := by
  unfold mapperOfCode headerMapper
  dsimp only
  generalize code.toNat = n
  have hlist : n ∈ [0x01, 0x02, 0x03, 0x0F, 0x10, 0x11, 0x12, 0x13] ↔ 1 ≤ n ∧ n ≤ 3 ∨ 0x0F ≤ n ∧ n ≤ 0x13 := by
    simp only [List.mem_cons, List.not_mem_nil, or_false]
    omega
  rw [hlist]
  split
  next h0 => rw [and_iff_right (.inl h0), Option.some.injEq, eq_comm]
  next h0 =>
    split
    next h1 => rw [and_iff_right (.inr (.inl h1)), if_pos h1.2, Option.some.injEq, eq_comm]
    next h1 =>
      by_cases h3 : 0x0F ≤ n ∧ n ≤ 0x13
      · rw [if_pos h3, and_iff_right (.inr (.inr h3)), if_neg (by omega), Option.some.injEq, eq_comm]
      · rw [if_neg h3]
        exact iff_of_false nofun fun h => by omega

theorem cartRamSizeOfCode_eq_some {code : Byte} {size : CartRamSize} :
    cartRamSizeOfCode code = some size ↔ code.toNat ≤ 3 ∧ size = headerRamSize code.toNat := by
  unfold cartRamSizeOfCode headerRamSize
  generalize code.toNat = n
  match n with
  | 0 | 1 | 2 | 3 => simp [eq_comm]
  | n + 4 => exact iff_of_false nofun fun h => by omega

theorem romLengthAllowed_iff (len : Nat) (m : Mapper) :
    romLengthAllowed len m = true ↔ len % 0x4000 = 0 ∧ 0x8000 ≤ len ∧ (m = .noMapper → len = 0x8000) := by
  simp [romLengthAllowed, and_assoc, or_iff_not_imp_left]

/-- The bytes of the declared size (R122). -/
def headerRamBytes (code : Nat) : Nat :=
  match code with
  | 1 => 0x800
  | 2 => 0x2000
  | 3 => 0x8000
  | _ => 0

theorem cartRamBytes_headerRamSize {code : Nat} (h : code ≤ 3) : cartRamBytes (headerRamSize code) = headerRamBytes code := by
  interval_cases code <;> rfl

/-! ## The launch -/

/-- The launched state for a mapper and a RAM size. -/
def launchedState (p : LaunchParams) (mapper : Mapper) (size : CartRamSize) : State :=
  resetState
    { romBankCount := p.cartRom.length / 0x4000
      cartRamSize := size
      initRam := p.initRam
      timerMode := p.timerMode
      stopMode := p.stopMode
      spritePenaltyDots := p.spritePenaltyDots
      objDrawOrder := p.objDrawOrder
      shadeColor := p.shadeColor
      mbcRamenPolicy := p.mbcRamenPolicy }
    mapper (Memory.ofBytes p.cartRom) (Memory.ofBytes p.bootRom) (Memory.ofBytes p.cartRamInit) p.joyInputs

/-- The launch accepts its images with this mapper and RAM size. -/
def Launches (p : LaunchParams) (mapper : Mapper) (size : CartRamSize) : Prop :=
  p.bootRom.length = 256 ∧ mapperOfCode (p.cartRom.getD 0x147 0) = some mapper ∧
    romLengthAllowed p.cartRom.length mapper = true ∧ cartRamSizeOfCode (p.cartRom.getD 0x149 0) = some size ∧
    p.cartRamInit.length = cartRamBytes size

/-- The launch's tests, in the numbers of the header (R7, R121, R122). -/
def headerAccepted (p : LaunchParams) : Prop :=
  let code := (p.cartRom.getD 0x147 0).toNat
  let ramCode := (p.cartRom.getD 0x149 0).toNat
  let len := p.cartRom.length
  p.bootRom.length = 256 ∧ len % 0x4000 = 0 ∧ 0x8000 ≤ len ∧
    (code = 0 ∧ len = 0x8000 ∨ code ∈ [0x01, 0x02, 0x03, 0x0F, 0x10, 0x11, 0x12, 0x13]) ∧
    ramCode ≤ 3 ∧ p.cartRamInit.length = headerRamBytes ramCode

theorem headerMapper_eq_noMapper (code : Nat) : headerMapper code = .noMapper ↔ code = 0 := by
  unfold headerMapper
  split
  next h => exact iff_of_true rfl h
  next h => split <;> exact iff_of_false nofun h

theorem launches_iff (p : LaunchParams) (mapper : Mapper) (size : CartRamSize) :
    Launches p mapper size ↔
      headerAccepted p ∧ mapper = headerMapper (p.cartRom.getD 0x147 0).toNat ∧
        size = headerRamSize (p.cartRom.getD 0x149 0).toNat := by
  unfold Launches headerAccepted
  rw [mapperOfCode_eq_some, cartRamSizeOfCode_eq_some, romLengthAllowed_iff]
  dsimp only
  generalize (p.cartRom.getD 0x147 0).toNat = code
  generalize (p.cartRom.getD 0x149 0).toNat = ramCode
  have hzero : (0 : Nat) ∉ [0x01, 0x02, 0x03, 0x0F, 0x10, 0x11, 0x12, 0x13] := by decide
  constructor
  · rintro ⟨hboot, ⟨hcode, rfl⟩, ⟨hbanks, hmin, hno⟩, ⟨hram, rfl⟩, hinit⟩
    rw [headerMapper_eq_noMapper] at hno
    rw [cartRamBytes_headerRamSize hram] at hinit
    exact ⟨⟨hboot, hbanks, hmin, hcode.imp_left fun h0 => ⟨h0, hno h0⟩, hram, hinit⟩, rfl, rfl⟩
  · rintro ⟨⟨hboot, hbanks, hmin, hcode, hram, hinit⟩, rfl, rfl⟩
    rw [headerMapper_eq_noMapper, cartRamBytes_headerRamSize hram]
    refine ⟨hboot, ⟨hcode.imp_left And.left, rfl⟩, ⟨hbanks, hmin, fun h0 => ?_⟩, ⟨hram, rfl⟩, hinit⟩
    exact hcode.elim And.right fun h => absurd (h0 ▸ h) hzero

theorem launch_of_launches {p : LaunchParams} {mapper : Mapper} {size : CartRamSize} (h : Launches p mapper size) :
    launch p = .next (launchedState p mapper size) := by
  obtain ⟨hboot, hmapper, hlen, hsize, hram⟩ := h
  rw [launch, if_neg (not_not_intro hboot), hmapper]
  dsimp only
  rw [if_pos hlen, hsize]
  exact if_pos hram

/-- Every launch that is not refused has accepted its images. -/
theorem launch_refused {p : LaunchParams} (h : ∀ mapper size, ¬Launches p mapper size) : ∃ r, launch p = .refused r := by
  unfold launch
  split
  · exact ⟨_, rfl⟩
  next hboot =>
  split
  · exact ⟨_, rfl⟩
  next mapper hmapper =>
  split
  next hlen =>
    split
    · exact ⟨_, rfl⟩
    next size hsize =>
    exact ⟨_, if_neg fun hram => h mapper size ⟨not_not.mp hboot, hmapper, hlen, hsize, hram⟩⟩
  · exact ⟨_, rfl⟩

theorem launchedState_inv {p : LaunchParams} {mapper : Mapper} {size : CartRamSize} (h : Launches p mapper size) :
    Inv (launchedState p mapper size) := by
  obtain ⟨hboot, -, hlen, -, hram⟩ := h
  obtain ⟨hbanks, hmin, -⟩ := (romLengthAllowed_iff _ _).mp hlen
  have hcount : p.cartRom.length / 0x4000 * 0x4000 = p.cartRom.length := Nat.div_mul_cancel (Nat.dvd_of_mod_eq_zero hbanks)
  exact resetState_inv mapper _ (show 2 ≤ p.cartRom.length / 0x4000 by omega) (imageOk_ofBytes hcount.ge)
    (imageOk_ofBytes hboot.le) (imageOk_ofBytes hram.le)

end Sys2Proof.Machine

open Sys2Proof.Machine

/-- Settles O56: the reset state's fields, and the invariant for its empty memories. -/
theorem resetMeetsTheInvariant : Obligations.ResetMeetsTheInvariant := by
  refine ⟨reset_inv, rfl, rfl, rfl, rfl, rfl, rfl, rfl, rfl, rfl, rfl, rfl, rfl, rfl, rfl, fun x y => rfl, rfl, rfl, rfl, rfl,
    rfl, rfl, rfl, fun i => ⟨rfl, rfl, rfl, rfl⟩, rfl, rfl⟩

/-- Settles O55: the header's numbers are what the launch accepts, and the launched state is the reset state of its images. -/
theorem launchFromTheHeader : Obligations.LaunchFromTheHeader := by
  intro p code ramCode len ramBytes
  split
  next h =>
    have hlaunches := (launches_iff p _ _).mpr ⟨h, rfl, rfl⟩
    refine ⟨_, launch_of_launches hlaunches, launchedState_inv hlaunches, rfl, fun i => Memory.read_ofBytes _ i,
      fun i => Memory.read_ofBytes _ i, fun i => Memory.read_ofBytes _ i, fun i hi => ?_, fun i hi => ?_, fun i hi => ?_⟩
    · exact ⟨Memory.read_filled _ _ _ hi, Memory.read_filled _ _ _ hi⟩
    · exact Memory.read_filled _ _ _ hi
    · exact Memory.read_filled _ _ _ hi
  next h =>
    exact launch_refused fun mapper size hlaunches => h ((launches_iff p mapper size).mp hlaunches).1

/-- Settles O57: the reset input is the reset state of the constants and images, filled with INIT_RAM. -/
theorem resetInputKeepsCartridge : Obligations.ResetInputKeepsCartridge := by
  intro s t
  have ht : t = resetState s.cfg (mapperAfterReset s.mapper) s.rom.buf s.bootRom s.cartRam.buf s.joyInputs := rfl
  clear_value t
  refine ⟨?_, fun i hi => ?_, fun i hi => ?_, fun i hi => ?_, fun hinv hbanks => ?_⟩
  · rw [ht]
    cases s.mapper <;> rfl
  · rw [ht]
    exact ⟨Memory.read_filled _ _ _ hi, Memory.read_filled _ _ _ hi⟩
  · rw [ht]
    exact Memory.read_filled _ _ _ hi
  · rw [ht]
    exact Memory.read_filled _ _ _ hi
  · obtain ⟨⟨wrom, wboot, -, wram, -⟩, ⟨irom, iboot, -, iram, -⟩, -⟩ := hinv
    rw [ht]
    exact resetState_inv _ _ hbanks ⟨wrom, irom⟩ ⟨wboot, iboot⟩ ⟨wram, iram⟩

end
